-- ==== Sys2Proof/Word.lean ====
section
/-! DEFINITION. The two bit-vector widths of the engine (00_scope.md R10, R12): an 8-bit byte and a
16-bit word. Bits are numbered from 0 at the least significant bit. Addition on either wraps
modulo 2^8 or 2^16, which is `BitVec` addition. -/

namespace Sys2Proof

/-- R10: the width of A, F, B, C, D, E, H, L, of an opcode, of a sub-opcode and of one memory cell. -/
abbrev Byte := BitVec 8

/-- R10: the width of PC, SP, a register pair and an address (65,536 byte addresses). -/
abbrev Word := BitVec 16

end Sys2Proof
end

