-- ==== Sys2Proof/Machine/Bits.lean ====
section
/-! DEFINITION. Bit-field, byte-order and sign-extension helpers (00_scope.md R12 and its notation
table). -/

namespace Sys2Proof.Machine

/-- `{h, l}`: the concatenation of a high and a low byte, `h * 256 + l`. -/
def joinBytes (hi lo : Byte) : Word := hi ++ lo

/-- `v[15:8]`. -/
def highByte (v : Word) : Byte := v.extractLsb' 8 8

/-- `v[7:0]`. -/
def lowByte (v : Word) : Byte := v.extractLsb' 0 8

/-- `sext_16(e)`: R97, a displacement byte read as two's complement and widened to 16 bits. -/
def sext16 (e : Byte) : Word := e.signExtend 16

/-- `v[i]` as a Boolean. -/
def bitOf (v : Byte) (i : Nat) : Bool := v.getLsbD i

/-- A byte with only bit `n` set. -/
def bitMask (n : Fin 8) : Byte := 1#8 <<< n.val

end Sys2Proof.Machine
end

