-- ==== Sys2Proof/Config.lean ====
section
/-! DEFINITION. The parameters of a model (00_scope.md R11) and the values the spec leaves open.
`opaque` constants have no body, so nothing can be proved about which value they have. The bus
(20_memory.md R61) is one of the parameters. Its state is plain data, which `Machine.State` holds;
what its external addresses do with that state are open functions, so that a statement about every
state is a statement about every bus. -/

namespace Sys2Proof

/-- How the bus treats an address of a region (R62, R63). An address in no region is not backed. -/
inductive Access where
  /-- a stored byte, readable only -/
  | readOnly
  /-- a stored byte, readable and writable -/
  | readWrite
  /-- R61, R71: an external unit answers (banking, mirrors, register windows, anything else); what
  it answers and what it becomes are the open functions `Config.externalRead` and the rest -/
  | external
deriving DecidableEq, Repr

/-- One stretch of addresses: `base` up to, not including, `base + size`. -/
structure Region where
  base : Nat
  size : Nat
  access : Access
deriving DecidableEq, Repr

/-- The parameters of the bus that no access changes: `BOOT_CTRL_ADDR` (R72; `none` for a bus
without the register, as R74's FlatBus), the written values for which `BOOT_UNMAP_WRITE` holds
(R72), and the regions backed beside the boot image and that register (R71, "everything else").
The first region that holds an address decides. -/
structure BusPolicy where
  bootCtrl : Option Word
  unmapValues : List Byte
  regions : List Region
deriving DecidableEq, Repr

/-- R63: how a write to an external address fails. -/
inductive WriteRefusal where
  | unmapped
  | readOnly
deriving DecidableEq, Repr

namespace Machine

/-- The bytes memory holds, by address: strictly rising addresses below 65,536, and no entry equal to
what an unlisted address reads as (`Memory.unlisted`, `Memory.wf`). -/
abbrev Memory := List Host.Cell

/-- `BusState` (20_memory.md R61), of a unit the core reaches through its operations only. -/
structure Bus where
  /-- R71, R263: the boot image, byte i at address i while it is mapped. -/
  bootImage : Vector Byte 256
  /-- R72: whether the boot image is still mapped. -/
  bootMapped : Bool
  /-- R60: the bytes the bus itself stores. -/
  mem : Memory
  /-- R61: the state of what answers at the external addresses, written as numbers in whatever way
  that unit likes. -/
  external : List Nat
  /-- R11, R71 to R74: the parameters of the bus; no access changes them. -/
  policy : BusPolicy
deriving DecidableEq, Repr

end Machine

namespace Config

/-- R191, 90_conflicts.md C5: the source gives both 12 and 16 for `BIT b,(HL)` and does not say
which is later. Left open: whether it is 16. -/
opaque cycBitHlIs16 : Bool

/-- R11: `CYC_BIT_HL`, one of 12 and 16 and nothing else. -/
def cycBitHl : Nat := if cycBitHlIs16 then 16 else 12

/-- R11, R72: `BOOT_CTRL_ADDR` of the machine after reset. -/
opaque bootCtrlAddr : Word

/-- R11, R72: the values whose write to `bootCtrlAddr` unmaps the boot image of the machine after
reset. -/
opaque bootUnmapValues : List Byte

/-- R72, 93_implementation_defined.md U9: what a read of the boot control register returns is
unspecified (any value). R61 makes a read a function of the bus state that changes nothing, so the
free value is an open function of the whole bus state. -/
opaque bootCtrlRead (b : Machine.Bus) : Byte

/-- R61, R62: `read` at an external address, of any bus: the byte, or nothing where it does not back
the address now. -/
opaque externalRead (b : Machine.Bus) (a : Word) : Option Byte

/-- R61, R63: whether and how `write` at an external address fails, of any bus. -/
opaque externalWriteError (b : Machine.Bus) (a : Word) (v : Byte) : Option WriteRefusal

/-- R61, R63: what `write` at an external address, when it does not fail, makes of the state of the
unit, of any bus. `Machine.Bus.externalAfter` takes it where it is idempotent (R70). -/
opaque externalStored (b : Machine.Bus) (a : Word) (v : Byte) : List Nat

/-- R61, R81: what `dump` shows of the external addresses, of any bus. -/
opaque externalDump (b : Machine.Bus) : List Nat

end Config

end Sys2Proof
end

