-- ==== Sys2Proof/Machine/State.lean ====
section
/-! DEFINITION. The state of the machine (10_state.md R30, R48): the core, the bus and the status, as
plain data; the reasons a step stops; the state after reset. -/

namespace Sys2Proof.Machine

/-- R231: which table an opcode without a handler was looked up in. -/
inductive OpcodeTable where
  /-- a primary opcode: no prefix -/
  | primary
  /-- a sub-opcode after 0xCB: prefix CB -/
  | secondary
deriving DecidableEq, Repr

/-- R230: the fatal errors a step can raise, each with what it records (R231, R232, R233). -/
inductive FatalError where
  | unimplementedOpcode (table : OpcodeTable) (byte : Byte)
  | unmappedAccess (address : Word)
  | readOnlyViolation (address : Word)
deriving DecidableEq, Repr

/-- R48: `Running | Faulted(error)`. -/
inductive Status where
  | running
  | faulted (e : FatalError)
deriving DecidableEq, Repr

/-- R48: `Machine := { core, bus, status }`, the core's fields written out (R30). The pairs AF, BC,
DE and HL are views of the halves and no fields (R32). -/
structure State where
  a : Byte
  f : Byte
  b : Byte
  c : Byte
  d : Byte
  e : Byte
  h : Byte
  l : Byte
  sp : Word
  pc : Word
  cycles : Nat
  bus : Bus
  status : Status
deriving DecidableEq, Repr

/-- The reasons a step stops. Each carries the machine the failed step leaves (R236). -/
inductive Fault where
  /-- R231: raised by the step (a primary opcode with no handler) and by the meaning of the CB escape
  (a sub-opcode with none). Safe: the spec's own outcome, with the state it gives. -/
  | unimplementedOpcode (table : OpcodeTable) (byte : Byte) (left : State)
  /-- R232: raised by every bus read or write of an address the bus does not back. Safe: the spec's
  own outcome, with the state it gives. -/
  | unmappedAccess (address : Word) (left : State)
  /-- R233: raised by a bus write to a region that is not writable. Safe: the spec's own outcome,
  with the state it gives. -/
  | readOnlyViolation (address : Word) (left : State)
  /-- R132, R236: answered by the step on a machine that is Faulted, which takes no step; `left` is
  that machine, unchanged. Safe: the model stops where a host might go on (D16). -/
  | notRunning (e : FatalError) (left : State)
deriving DecidableEq, Repr

/-- An instruction without a meaning. -/
inductive Refusal where
  /-- Answered by `exec` for an instruction that has no meaning yet, by its mnemonic; no arm answers
  it now. Safe. -/
  | notModelled (mnemonic : String)
deriving DecidableEq, Repr

/-- The policy of the bus after reset. The spec fixes none (R11): the register's address and its
unmapping values are open constants; every address is backed by read-write memory beside the boot
image and the register. DESIGN CHOICE (log 5), unsafe. -/
def resetPolicy : BusPolicy where
  bootCtrl := some Config.bootCtrlAddr
  unmapValues := Config.bootUnmapValues
  regions := [⟨0, 65536, .readWrite⟩]

/-- R47, R260 to R263: the machine when it has been constructed. PC 0x0000, `cycles` 0, Running, the
boot image mapped. The eight registers and SP are INIT_REGS, which the spec leaves open: zero here,
DESIGN CHOICE (log 2), unsafe. The boot image is BOOT_IMAGE, which the spec leaves open: 256 zero
bytes here, DESIGN CHOICE (log 1), unsafe. -/
def State.reset : State where
  a := 0
  f := 0
  b := 0
  c := 0
  d := 0
  e := 0
  h := 0
  l := 0
  sp := 0
  pc := 0
  cycles := 0
  bus :=
    { bootImage := Vector.replicate 256 0
      bootMapped := true
      mem := []
      external := []
      policy := resetPolicy }
  status := .running

end Sys2Proof.Machine
end

