-- ==== Sys2Proof/Machine/Bus.lean ====
section
/-! DEFINITION. Memory and the bus (20_memory.md): one byte read, one byte written, `read_word`, and
the two buses the spec names (R73, R74). -/

namespace Sys2Proof.Machine

/-! ### Memory in canonical form -/

/-- What an address that memory does not list holds. DESIGN CHOICE (log 6), unsafe: the spec gives no
initial contents; 95_test_vectors.md writes its vectors with 0x00. -/
def Memory.unlisted : Byte := 0

/-- The canonical form: addresses strictly rising and inside the 16-bit space (R60), no entry equal
to what an unlisted address holds. -/
abbrev Memory.wf (m : Memory) : Prop :=
  m.Pairwise (fun x y => x.1 < y.1) ∧ ∀ x ∈ m, x.1 < 65536 ∧ x.2 ≠ Memory.unlisted

/-- The byte memory holds at an address. -/
def Memory.read : Memory → Nat → Byte
  | [], _ => Memory.unlisted
  | (k, v) :: m, a => if k = a then v else Memory.read m a

/-- Memory with `v` at `a`, in canonical form again. -/
def Memory.write : Memory → Nat → Byte → Memory
  | [], a, v => if v = Memory.unlisted then [] else [(a, v)]
  | (k, w) :: m, a, v =>
    if k < a then (k, w) :: Memory.write m a v
    else
      let rest := if k = a then m else (k, w) :: m
      if v = Memory.unlisted then rest else (a, v) :: rest

/-- Memory with these bytes stored in it one after the other. -/
def Memory.ofList (contents : List (Word × Byte)) : Memory :=
  contents.foldl (fun m x => m.write x.1.toNat x.2) []

/-! ### The bus -/

/-- R71: what the policy backs at an address beside the boot image and the control register. -/
def Bus.access (b : Bus) (a : Word) : Option Access :=
  (b.policy.regions.find? fun r => decide (r.base ≤ a.toNat) && decide (a.toNat < r.base + r.size)).map Region.access

/-- R61, R71: an external unit answers at the address, where neither the mapped boot image nor the
control register does. -/
def Bus.isExternal (b : Bus) (a : Word) : Bool := b.access a == some .external

/-- R71, R263: the address is in the boot image, which is mapped. -/
def Bus.inBootImage (b : Bus) (a : Word) : Bool := b.bootMapped && decide (a.toNat < 256)

/-- R72: the address is the boot control register's. Where the boot image is mapped over it, the
image is reached and not the register: DESIGN CHOICE (log 7), safe. -/
def Bus.isBootCtrl (b : Bus) (a : Word) : Bool := !b.inBootImage a && b.policy.bootCtrl == some a

/-- R72: `BOOT_UNMAP_WRITE(v)`. -/
def Bus.unmaps (b : Bus) (v : Byte) : Bool := b.policy.unmapValues.contains v

/-- R62: the error of `read_byte(a)`, if it fails. -/
def Bus.readError (b : Bus) (a : Word) : Option FatalError :=
  if b.inBootImage a || b.isBootCtrl a then none
  else
    match b.access a with
    | some .readOnly => none
    | some .readWrite => none
    | some .external => if (Config.externalRead b a).isSome then none else some (.unmappedAccess a)
    | none => some (.unmappedAccess a)

/-- R62: the byte `read_byte(a)` returns when it does not fail. A read of the boot control register
returns a free value (R72, log 8). -/
def Bus.byteAt (b : Bus) (a : Word) : Byte :=
  if b.inBootImage a then b.bootImage.toList.getD a.toNat 0
  else if b.isBootCtrl a then Config.bootCtrlRead b
  else if b.isExternal a then (Config.externalRead b a).getD 0
  else b.mem.read a.toNat

/-- R63: the error an external address answers a write with, at its address. -/
def writeRefusalError (a : Word) : WriteRefusal → FatalError
  | .unmapped => .unmappedAccess a
  | .readOnly => .readOnlyViolation a

/-- R63: the error of `write_byte(a, v)`, if it fails. The value matters to an external unit only. -/
def Bus.writeError (b : Bus) (a : Word) (v : Byte) : Option FatalError :=
  if b.inBootImage a then some (.readOnlyViolation a)
  else if b.isBootCtrl a then none
  else
    match b.access a with
    | some .readWrite => none
    | some .readOnly => some (.readOnlyViolation a)
    | some .external => (Config.externalWriteError b a v).map (writeRefusalError a)
    | none => some (.unmappedAccess a)

/-- R72: the bus with the mapping that a write to `a` leaves: a write to the control register with an
unmapping value unmaps the boot image for good. -/
def Bus.remapped (b : Bus) (a : Word) (v : Byte) : Bus :=
  { b with bootMapped := b.bootMapped && !(b.isBootCtrl a && b.unmaps v) }

/-- R61, R70: the state of the external unit after a write it takes. R70 makes every access idempotent:
the unit's own open function decides where the same write once more would succeed and change nothing
more, as with every unit that R70 allows; a write for which it would not leaves the unit alone
(log 4). -/
def Bus.externalAfter (b : Bus) (a : Word) (v : Byte) : List Nat :=
  let m := b.remapped a v
  let s := Config.externalStored m a v
  let after : Bus := { m with external := s }
  if Config.externalStored after a v = s ∧
      (b.isBootCtrl a = true ∨ Config.externalWriteError after a v = none) then s
  else b.external

/-- R61, R63, R70, R72: the bus after a `write_byte(a, v)` that does not fail: the byte is stored, or
an external unit takes it, and the mapping is what R72 says. -/
def Bus.stored (b : Bus) (a : Word) (v : Byte) : Bus :=
  { b.remapped a v with
    mem := if b.isExternal a then b.mem else b.mem.write a.toNat v
    external := if b.isExternal a then b.externalAfter a v else b.external }

/-- R62: `read_byte`. A read does not change the bus (R61). -/
def Bus.read (b : Bus) (a : Word) : Except FatalError Byte :=
  match b.readError a with
  | none => .ok (b.byteAt a)
  | some e => .error e

/-- R63: `write_byte`. A failed write changes nothing. -/
def Bus.write (b : Bus) (a : Word) (v : Byte) : Except FatalError Bus :=
  match b.writeError a v with
  | none => .ok (b.stored a v)
  | some e => .error e

/-- R64, R67: `read_word`, little-endian: the low byte at `a` is read first, then the high byte at
`a + 1 mod 2^16`; the first read that fails decides. -/
def Bus.readWord (b : Bus) (a : Word) : Except FatalError (Byte × Byte) :=
  match b.read a with
  | .error e => .error e
  | .ok lo =>
    match b.read (a + 1) with
    | .error e => .error e
    | .ok hi => .ok (hi, lo)

/-! ### The buses the spec names -/

/-- R73: the minimal reference bus: the boot image and the control register, nothing else. -/
def Bus.minimal (image : Vector Byte 256) (ctrl : Word) (unmapValues : List Byte) : Bus where
  bootImage := image
  bootMapped := true
  mem := []
  external := []
  policy := { bootCtrl := some ctrl, unmapValues := unmapValues, regions := [] }

/-- R74: FlatBus: 65,536 bytes, all backed and writable, no control register and no boot image
mapped. -/
def Bus.flat (mem : Memory) : Bus where
  bootImage := Vector.replicate 256 0
  bootMapped := false
  mem := mem
  external := []
  policy := { bootCtrl := none, unmapValues := [], regions := [⟨0, 65536, .readWrite⟩] }

/-! ### Placing bytes from outside -/

/-- Puts a byte where the next read of the address finds it, and makes it readable: into the boot
image while that is mapped over the address, else into memory, with the address backed by memory and
no control register on it. This is the load of a program from outside the machine (R263, log 14), no access of
the core. -/
def Bus.place (b : Bus) (a : Word) (v : Byte) : Bus :=
  if b.inBootImage a then
    { b with bootImage := if h : a.toNat < 256 then b.bootImage.set a.toNat v h else b.bootImage }
  else
    { b with
      mem := b.mem.write a.toNat v
      policy :=
        { b.policy with
          bootCtrl := if b.isBootCtrl a then none else b.policy.bootCtrl
          regions :=
            if (b.access a).isSome && !b.isExternal a then b.policy.regions
            else ⟨a.toNat, 1, .readWrite⟩ :: b.policy.regions } }

end Sys2Proof.Machine
end

