-- ==== Sys2Proof/Syntax.lean ====
section
/-! DEFINITION. The instructions of the engine: one constructor per row of spec/opcode_table.json, in the
table's order, and the names their operands take. `Mem` in a constructor's name is the (HL) operand,
the byte at the address HL holds; the letters are the table's register letters, destination first. -/

namespace Sys2Proof

/-- R93: the seven registers an operand code names (every code but 6). F is none of them. -/
inductive Reg8 where
  | b | c | d | e | h | l | a
deriving DecidableEq, Repr

/-- R93: the operand a 3-bit code names: a register, or the byte at the address in HL (code 6). -/
inductive Operand where
  | reg (r : Reg8)
  | mem
deriving DecidableEq, Repr

/-- R94: the destinations of LD rr,d16. AF is none of them. -/
inductive Dest16 where
  | bc | de | hl | sp
deriving DecidableEq, Repr

/-- R91, R92: the instructions. An argument is an immediate byte (`d8`, `e8`), a 16-bit immediate
(`d16`), or the sub-opcode of the CB escape. `cbPrefix sub` is the row of the escape itself (R103,
R125); a sub-opcode with a row of its own decodes to that row's constructor. -/
inductive Instr where
  | nop
  | ldBcD16 (v : Word)
  | ldBD8 (v : Byte)
  | ldCD8 (v : Byte)
  | ldDeD16 (v : Word)
  | ldDD8 (v : Byte)
  | ldED8 (v : Byte)
  | jrNzE8 (e : Byte)
  | ldHlD16 (v : Word)
  | ldHlIncA
  | ldHD8 (v : Byte)
  | ldLD8 (v : Byte)
  | ldSpD16 (v : Word)
  | ldHlDecA
  | ldMemD8 (v : Byte)
  | ldAD8 (v : Byte)
  | ldBB
  | ldBC
  | ldBD
  | ldBE
  | ldBH
  | ldBL
  | ldBMem
  | ldBA
  | ldCB
  | ldCC
  | ldCD
  | ldCE
  | ldCH
  | ldCL
  | ldCMem
  | ldCA
  | ldDB
  | ldDC
  | ldDD
  | ldDE
  | ldDH
  | ldDL
  | ldDMem
  | ldDA
  | ldEB
  | ldEC
  | ldED
  | ldEE
  | ldEH
  | ldEL
  | ldEMem
  | ldEA
  | ldHB
  | ldHC
  | ldHD
  | ldHE
  | ldHH
  | ldHL
  | ldHMem
  | ldHA
  | ldLB
  | ldLC
  | ldLD
  | ldLE
  | ldLH
  | ldLL
  | ldLMem
  | ldLA
  | ldMemB
  | ldMemC
  | ldMemD
  | ldMemE
  | ldMemH
  | ldMemL
  | ldMemA
  | ldAB
  | ldAC
  | ldAD
  | ldAE
  | ldAH
  | ldAL
  | ldAMem
  | ldAA
  | xorB
  | xorC
  | xorD
  | xorE
  | xorH
  | xorL
  | xorA
  | orB
  | orC
  | orD
  | orE
  | orH
  | orL
  | orA
  | cbPrefix (sub : Byte)
  | rlcB
  | rlcC
  | rlcD
  | rlcE
  | rlcH
  | rlcL
  | rlcMem
  | rlcA
  | rrcB
  | rrcC
  | rrcD
  | rrcE
  | rrcH
  | rrcL
  | rrcMem
  | rrcA
  | rlB
  | rlC
  | rlD
  | rlE
  | rlH
  | rlL
  | rlMem
  | rlA
  | rrB
  | rrC
  | rrD
  | rrE
  | rrH
  | rrL
  | rrMem
  | rrA
  | bit0B
  | bit0C
  | bit0D
  | bit0E
  | bit0H
  | bit0L
  | bit0Mem
  | bit0A
  | bit1B
  | bit1C
  | bit1D
  | bit1E
  | bit1H
  | bit1L
  | bit1Mem
  | bit1A
  | bit2B
  | bit2C
  | bit2D
  | bit2E
  | bit2H
  | bit2L
  | bit2Mem
  | bit2A
  | bit3B
  | bit3C
  | bit3D
  | bit3E
  | bit3H
  | bit3L
  | bit3Mem
  | bit3A
  | bit4B
  | bit4C
  | bit4D
  | bit4E
  | bit4H
  | bit4L
  | bit4Mem
  | bit4A
  | bit5B
  | bit5C
  | bit5D
  | bit5E
  | bit5H
  | bit5L
  | bit5Mem
  | bit5A
  | bit6B
  | bit6C
  | bit6D
  | bit6E
  | bit6H
  | bit6L
  | bit6Mem
  | bit6A
  | bit7B
  | bit7C
  | bit7D
  | bit7E
  | bit7H
  | bit7L
  | bit7Mem
  | bit7A
  | res0B
  | res0C
  | res0D
  | res0E
  | res0H
  | res0L
  | res0Mem
  | res0A
  | res1B
  | res1C
  | res1D
  | res1E
  | res1H
  | res1L
  | res1Mem
  | res1A
  | res2B
  | res2C
  | res2D
  | res2E
  | res2H
  | res2L
  | res2Mem
  | res2A
  | res3B
  | res3C
  | res3D
  | res3E
  | res3H
  | res3L
  | res3Mem
  | res3A
  | res4B
  | res4C
  | res4D
  | res4E
  | res4H
  | res4L
  | res4Mem
  | res4A
  | res5B
  | res5C
  | res5D
  | res5E
  | res5H
  | res5L
  | res5Mem
  | res5A
  | res6B
  | res6C
  | res6D
  | res6E
  | res6H
  | res6L
  | res6Mem
  | res6A
  | res7B
  | res7C
  | res7D
  | res7E
  | res7H
  | res7L
  | res7Mem
  | res7A
  | set0B
  | set0C
  | set0D
  | set0E
  | set0H
  | set0L
  | set0Mem
  | set0A
  | set1B
  | set1C
  | set1D
  | set1E
  | set1H
  | set1L
  | set1Mem
  | set1A
  | set2B
  | set2C
  | set2D
  | set2E
  | set2H
  | set2L
  | set2Mem
  | set2A
  | set3B
  | set3C
  | set3D
  | set3E
  | set3H
  | set3L
  | set3Mem
  | set3A
  | set4B
  | set4C
  | set4D
  | set4E
  | set4H
  | set4L
  | set4Mem
  | set4A
  | set5B
  | set5C
  | set5D
  | set5E
  | set5H
  | set5L
  | set5Mem
  | set5A
  | set6B
  | set6C
  | set6D
  | set6E
  | set6H
  | set6L
  | set6Mem
  | set6A
  | set7B
  | set7C
  | set7D
  | set7E
  | set7H
  | set7L
  | set7Mem
  | set7A
deriving DecidableEq, Repr

end Sys2Proof
end

