-- ==== Sys2Proof/Machine/Ops.lean ====
section
/-! DEFINITION. The named operations the meanings are written over: registers and pairs (10_state.md
R31 to R33), raising an error (60_exceptions.md R230 to R236), completing a handler (40_step_engine.md
R127), and the bus accesses of the core (00_scope.md R13). -/

namespace Sys2Proof.Machine

/-- What a step or a handler answers (R126, R131). -/
abbrev Result := Host.Outcome State Fault Refusal

/-! ### Registers -/

/-- `x[r]`: the one place an operand register is read. -/
def State.getReg (s : State) (r : Reg8) : Byte :=
  match r with
  | .b => s.b
  | .c => s.c
  | .d => s.d
  | .e => s.e
  | .h => s.h
  | .l => s.l
  | .a => s.a

/-- `x[r] <- v`: the one place an operand register is written. Only `r` changes (R33). -/
def State.setReg (s : State) (r : Reg8) (v : Byte) : State :=
  match r with
  | .b => { s with b := v }
  | .c => { s with c := v }
  | .d => { s with d := v }
  | .e => { s with e := v }
  | .h => { s with h := v }
  | .l => { s with l := v }
  | .a => { s with a := v }

/-- `F <- v`, all 8 bits (R37). -/
def State.setF (s : State) (v : Byte) : State := { s with f := v }

/-- `pc <- v`. -/
def State.setPc (s : State) (v : Word) : State := { s with pc := v }

/-- `x[SP] <- v`. -/
def State.setSp (s : State) (v : Word) : State := { s with sp := v }

/-- The state with another bus. -/
def State.setBus (s : State) (b : Bus) : State := { s with bus := b }

/-- `cycles <- cycles + n` (R127). -/
def State.addCycles (s : State) (n : Nat) : State := { s with cycles := s.cycles + n }

/-- R236: the state with the machine Faulted; nothing else changes. -/
def State.fail (s : State) (e : FatalError) : State := { s with status := .faulted e }

/-- `x[HL]`: H is the high half (R31; general knowledge, log 15). -/
def State.hl (s : State) : Word := joinBytes s.h s.l

/-- `x[HL] <- v` (R33). -/
def State.setHl (s : State) (v : Word) : State := (s.setReg .h (highByte v)).setReg .l (lowByte v)

/-- `x[rr] <- v` for the destinations of LD rr,d16 (R94, R33): the first-named half takes
`v[15:8]`, the second `v[7:0]`; SP takes `v`. -/
def State.setDest16 (s : State) (rr : Dest16) (v : Word) : State :=
  match rr with
  | .bc => (s.setReg .b (highByte v)).setReg .c (lowByte v)
  | .de => (s.setReg .d (highByte v)).setReg .e (lowByte v)
  | .hl => s.setHl v
  | .sp => s.setSp v

/-! ### Errors and completion -/

/-- The one operation that raises a fatal error (R132 "on raise", R236): the step ends here, the
machine becomes Faulted, the core and the bus keep what was reached, nothing is saved and nothing is
vectored (R239). There is no return from it (R240). -/
def raise (e : FatalError) (s : State) : Result :=
  match e with
  | .unimplementedOpcode t byte => .fault (.unimplementedOpcode t byte (s.fail e))
  | .unmappedAccess a => .fault (.unmappedAccess a (s.fail e))
  | .readOnlyViolation a => .fault (.readOnlyViolation a (s.fail e))

/-- A handler returns without error: its cycle cost is added (R127). -/
def complete (cost : Nat) (s : State) : Result := .next (s.addCycles cost)

/-! ### Bus accesses of the core -/

/-- `v <- MemRead(a, 1)`, then `k v`; a failure ends the step (R13). -/
def readThen (s : State) (a : Word) (k : Byte → Result) : Result :=
  match s.bus.read a with
  | .ok v => k v
  | .error e => raise e s

/-- `v <- MemRead(a, 2)`, then `k v`; a failure ends the step (R13, R64). -/
def readWordThen (s : State) (a : Word) (k : Word → Result) : Result :=
  match s.bus.readWord a with
  | .ok (hi, lo) => k (joinBytes hi lo)
  | .error e => raise e s

/-- `MemWrite(a, 1, v)`, then `k` on the state with the new bus; a failure ends the step (R13). -/
def writeThen (s : State) (a : Word) (v : Byte) (k : State → Result) : Result :=
  match s.bus.write a v with
  | .ok b => k (s.setBus b)
  | .error e => raise e s

end Sys2Proof.Machine
end

