-- ==== Sys2Proof/Machine/Flags.lean ====
section
/-! DEFINITION. The flags (10_state.md R36 to R39): where they are in F, and every flag computation
the instruction rules give. An instruction that writes flags writes all of F, with F[3:0] = 0
(R37). -/

namespace Sys2Proof.Machine

/-- `flag(Z)` = F[7] (R36). -/
def flagZ (f : Byte) : Bool := bitOf f 7

/-- `flag(N)` = F[6] (R36). -/
def flagN (f : Byte) : Bool := bitOf f 6

/-- `flag(H)` = F[5] (R36). -/
def flagH (f : Byte) : Bool := bitOf f 5

/-- `flag(C)` = F[4] (R36). -/
def flagC (f : Byte) : Bool := bitOf f 4

/-- R37: `{Z', N', H', C', 0b0000}`. -/
def packFlags (z n h c : Bool) : Byte :=
  BitVec.ofBool z ++ BitVec.ofBool n ++ BitVec.ofBool h ++ BitVec.ofBool c ++ 0b0000#4

/-- R180, R181: Z = 1 exactly when the result is 0; N = H = C = 0. -/
def logicFlags (res : Byte) : Byte := packFlags (res == 0) false false false

/-- R190, R191: Z is the tested bit itself, the implemented polarity (90_conflicts.md C4); N = 0,
H = 1, C kept. -/
def bitTestFlags (tested : Bool) (oldF : Byte) : Byte := packFlags tested false true (flagC oldF)

/-- R192 to R195: F <- 0x00, whatever the result (90_conflicts.md C8; D19). -/
def bitChangeFlags : Byte := packFlags false false false false

/-- R210 to R218: Z from the 8-bit result, N = H = 0, C the bit that left the operand. -/
def rotateFlags (res : Byte) (out : Bool) : Byte := packFlags (res == 0) false false out

end Sys2Proof.Machine
end

