-- ==== Sys2Proof/Machine/Operands.lean ====
section
/-! DEFINITION. The operand forms (30_encoding.md R93, R95 to R98) and the fetches (40_step_engine.md
R121, R122), and the shared shape of each family of meanings. A meaning starts with PC past the whole
instruction (R123; the immediate operands are in the instruction, log 12). -/

namespace Sys2Proof.Machine

/-! ### Fetches -/

/-- R121: `fetch8()`: on failure PC is unchanged. -/
def fetch8 (s : State) (k : Byte → State → Result) : Result :=
  readThen s s.pc fun v => k v (s.setPc (s.pc + 1))

/-- R122: `fetch16()`: on failure PC is unchanged. -/
def fetch16 (s : State) (k : Word → State → Result) : Result :=
  readWordThen s s.pc fun v => k v (s.setPc (s.pc + 2))

/-! ### The (HL) operand and the registers -/

/-- R93: `read_r8`. The (HL) operand is the byte at the address HL holds now. -/
def readOperand (s : State) (z : Operand) (k : Byte → Result) : Result :=
  match z with
  | .reg r => k (s.getReg r)
  | .mem => readThen s s.hl k

/-- R93: `write_r8`. -/
def writeOperand (s : State) (z : Operand) (v : Byte) (k : State → Result) : Result :=
  match z with
  | .reg r => k (s.setReg r v)
  | .mem => writeThen s s.hl v k

/-- The cycle cost of a form with a register operand or with (HL) (R267). -/
def costOf (z : Operand) (reg mem : Nat) : Nat :=
  match z with
  | .reg _ => reg
  | .mem => mem

/-! ### The result of each operation on a byte -/

/-- R210 to R217: the four rotates. -/
inductive Rotate where
  | rlc | rrc | rl | rr
deriving DecidableEq, Repr

/-- R218: the bit that leaves the operand: bit 7 for the left rotates, bit 0 for the right ones. -/
def Rotate.out (k : Rotate) (v : Byte) : Bool :=
  match k with
  | .rlc => bitOf v 7
  | .rrc => bitOf v 0
  | .rl => bitOf v 7
  | .rr => bitOf v 0

/-- R210, R212, R214, R216: the 8-bit result, from the operand and the flag C before. -/
def Rotate.result (k : Rotate) (v : Byte) (c : Bool) : Byte :=
  match k with
  | .rlc => v.extractLsb' 0 7 ++ BitVec.ofBool (bitOf v 7)
  | .rrc => BitVec.ofBool (bitOf v 0) ++ v.extractLsb' 1 7
  | .rl => v.extractLsb' 0 7 ++ BitVec.ofBool c
  | .rr => BitVec.ofBool c ++ v.extractLsb' 1 7

/-- R192: `v and not (1 << b)`. -/
def clearBit (n : Fin 8) (v : Byte) : Byte := v &&& ~~~(bitMask n)

/-- R194: `v or (1 << b)`. -/
def raiseBit (n : Fin 8) (v : Byte) : Byte := v ||| bitMask n

/-! ### The shared shapes of the meanings -/

/-- The read-modify-write shape of RES, SET and the rotates (R192 to R195, R210 to R217): read the
operand, write the result, then F; 8 cycles on a register, 16 on (HL). -/
def modifyOperand (z : Operand) (res : Byte → Byte) (flags : Byte → Byte) (s : State) : Result :=
  readOperand s z fun v =>
    writeOperand s z (res v) fun s' => complete (costOf z 8 16) (s'.setF (flags v))

/-- R210 to R217. The through-carry forms read C before they write it (R218). -/
def rotateOperand (k : Rotate) (z : Operand) (s : State) : Result :=
  modifyOperand z (fun v => k.result v (flagC s.f))
    (fun v => rotateFlags (k.result v (flagC s.f)) (k.out v)) s

/-- R192, R193. -/
def resetBit (n : Fin 8) (z : Operand) (s : State) : Result :=
  modifyOperand z (clearBit n) (fun _ => bitChangeFlags) s

/-- R194, R195. -/
def setBit (n : Fin 8) (z : Operand) (s : State) : Result :=
  modifyOperand z (raiseBit n) (fun _ => bitChangeFlags) s

/-- R190, R191: the operand is not written. -/
def testBit (n : Fin 8) (z : Operand) (s : State) : Result :=
  readOperand s z fun v =>
    complete (costOf z 8 Config.cycBitHl) (s.setF (bitTestFlags (bitOf v n.val) s.f))

/-- R144, R145, R146: read the source operand, write the destination operand. No flag is written. -/
def copyOperand (dst src : Operand) (cost : Nat) (s : State) : Result :=
  readOperand s src fun v => writeOperand s dst v fun s' => complete cost s'

/-- R142, R143: write an immediate to an operand. No flag is written. -/
def loadImmediate (dst : Operand) (v : Byte) (cost : Nat) (s : State) : Result :=
  writeOperand s dst v fun s' => complete cost s'

/-- R141. -/
def loadImmediate16 (rr : Dest16) (v : Word) (s : State) : Result :=
  complete 12 (s.setDest16 rr v)

/-- R148, R149: store A at HL, then step HL modulo 2^16; a failed write leaves HL (D12). -/
def storeAStepHl (delta : Word) (s : State) : Result :=
  writeThen s s.hl s.a fun s' => complete 8 (s'.setHl (s'.hl + delta))

/-- R180, R181: the result goes to A and decides F. -/
def logicA (op : Byte → Byte → Byte) (r : Reg8) (s : State) : Result :=
  let res := op s.a (s.getReg r)
  complete 4 ((s.setReg .a res).setF (logicFlags res))

end Sys2Proof.Machine
end

