-- ==== Sys2Proof/Machine/BitReset.lean ====
section
/-! DEFINITION. The meanings of RES (44_cb_bit.md R192, R193). PC is past both bytes. -/

namespace Sys2Proof.Machine

/-- R192: `RES 0,B`. -/
def execRes0B (s : State) : Result := resetBit 0 (.reg .b) s

/-- R192: `RES 0,C`. -/
def execRes0C (s : State) : Result := resetBit 0 (.reg .c) s

/-- R192: `RES 0,D`. -/
def execRes0D (s : State) : Result := resetBit 0 (.reg .d) s

/-- R192: `RES 0,E`. -/
def execRes0E (s : State) : Result := resetBit 0 (.reg .e) s

/-- R192: `RES 0,H`. -/
def execRes0H (s : State) : Result := resetBit 0 (.reg .h) s

/-- R192: `RES 0,L`. -/
def execRes0L (s : State) : Result := resetBit 0 (.reg .l) s

/-- R193: `RES 0,(HL)`. -/
def execRes0Mem (s : State) : Result := resetBit 0 .mem s

/-- R192: `RES 0,A`. -/
def execRes0A (s : State) : Result := resetBit 0 (.reg .a) s

/-- R192: `RES 1,B`. -/
def execRes1B (s : State) : Result := resetBit 1 (.reg .b) s

/-- R192: `RES 1,C`. -/
def execRes1C (s : State) : Result := resetBit 1 (.reg .c) s

/-- R192: `RES 1,D`. -/
def execRes1D (s : State) : Result := resetBit 1 (.reg .d) s

/-- R192: `RES 1,E`. -/
def execRes1E (s : State) : Result := resetBit 1 (.reg .e) s

/-- R192: `RES 1,H`. -/
def execRes1H (s : State) : Result := resetBit 1 (.reg .h) s

/-- R192: `RES 1,L`. -/
def execRes1L (s : State) : Result := resetBit 1 (.reg .l) s

/-- R193: `RES 1,(HL)`. -/
def execRes1Mem (s : State) : Result := resetBit 1 .mem s

/-- R192: `RES 1,A`. -/
def execRes1A (s : State) : Result := resetBit 1 (.reg .a) s

/-- R192: `RES 2,B`. -/
def execRes2B (s : State) : Result := resetBit 2 (.reg .b) s

/-- R192: `RES 2,C`. -/
def execRes2C (s : State) : Result := resetBit 2 (.reg .c) s

/-- R192: `RES 2,D`. -/
def execRes2D (s : State) : Result := resetBit 2 (.reg .d) s

/-- R192: `RES 2,E`. -/
def execRes2E (s : State) : Result := resetBit 2 (.reg .e) s

/-- R192: `RES 2,H`. -/
def execRes2H (s : State) : Result := resetBit 2 (.reg .h) s

/-- R192: `RES 2,L`. -/
def execRes2L (s : State) : Result := resetBit 2 (.reg .l) s

/-- R193: `RES 2,(HL)`. -/
def execRes2Mem (s : State) : Result := resetBit 2 .mem s

/-- R192: `RES 2,A`. -/
def execRes2A (s : State) : Result := resetBit 2 (.reg .a) s

/-- R192: `RES 3,B`. -/
def execRes3B (s : State) : Result := resetBit 3 (.reg .b) s

/-- R192: `RES 3,C`. -/
def execRes3C (s : State) : Result := resetBit 3 (.reg .c) s

/-- R192: `RES 3,D`. -/
def execRes3D (s : State) : Result := resetBit 3 (.reg .d) s

/-- R192: `RES 3,E`. -/
def execRes3E (s : State) : Result := resetBit 3 (.reg .e) s

/-- R192: `RES 3,H`. -/
def execRes3H (s : State) : Result := resetBit 3 (.reg .h) s

/-- R192: `RES 3,L`. -/
def execRes3L (s : State) : Result := resetBit 3 (.reg .l) s

/-- R193: `RES 3,(HL)`. -/
def execRes3Mem (s : State) : Result := resetBit 3 .mem s

/-- R192: `RES 3,A`. -/
def execRes3A (s : State) : Result := resetBit 3 (.reg .a) s

/-- R192: `RES 4,B`. -/
def execRes4B (s : State) : Result := resetBit 4 (.reg .b) s

/-- R192: `RES 4,C`. -/
def execRes4C (s : State) : Result := resetBit 4 (.reg .c) s

/-- R192: `RES 4,D`. -/
def execRes4D (s : State) : Result := resetBit 4 (.reg .d) s

/-- R192: `RES 4,E`. -/
def execRes4E (s : State) : Result := resetBit 4 (.reg .e) s

/-- R192: `RES 4,H`. -/
def execRes4H (s : State) : Result := resetBit 4 (.reg .h) s

/-- R192: `RES 4,L`. -/
def execRes4L (s : State) : Result := resetBit 4 (.reg .l) s

/-- R193: `RES 4,(HL)`. -/
def execRes4Mem (s : State) : Result := resetBit 4 .mem s

/-- R192: `RES 4,A`. -/
def execRes4A (s : State) : Result := resetBit 4 (.reg .a) s

/-- R192: `RES 5,B`. -/
def execRes5B (s : State) : Result := resetBit 5 (.reg .b) s

/-- R192: `RES 5,C`. -/
def execRes5C (s : State) : Result := resetBit 5 (.reg .c) s

/-- R192: `RES 5,D`. -/
def execRes5D (s : State) : Result := resetBit 5 (.reg .d) s

/-- R192: `RES 5,E`. -/
def execRes5E (s : State) : Result := resetBit 5 (.reg .e) s

/-- R192: `RES 5,H`. -/
def execRes5H (s : State) : Result := resetBit 5 (.reg .h) s

/-- R192: `RES 5,L`. -/
def execRes5L (s : State) : Result := resetBit 5 (.reg .l) s

/-- R193: `RES 5,(HL)`. -/
def execRes5Mem (s : State) : Result := resetBit 5 .mem s

/-- R192: `RES 5,A`. -/
def execRes5A (s : State) : Result := resetBit 5 (.reg .a) s

/-- R192: `RES 6,B`. -/
def execRes6B (s : State) : Result := resetBit 6 (.reg .b) s

/-- R192: `RES 6,C`. -/
def execRes6C (s : State) : Result := resetBit 6 (.reg .c) s

/-- R192: `RES 6,D`. -/
def execRes6D (s : State) : Result := resetBit 6 (.reg .d) s

/-- R192: `RES 6,E`. -/
def execRes6E (s : State) : Result := resetBit 6 (.reg .e) s

/-- R192: `RES 6,H`. -/
def execRes6H (s : State) : Result := resetBit 6 (.reg .h) s

/-- R192: `RES 6,L`. -/
def execRes6L (s : State) : Result := resetBit 6 (.reg .l) s

/-- R193: `RES 6,(HL)`. -/
def execRes6Mem (s : State) : Result := resetBit 6 .mem s

/-- R192: `RES 6,A`. -/
def execRes6A (s : State) : Result := resetBit 6 (.reg .a) s

/-- R192: `RES 7,B`. -/
def execRes7B (s : State) : Result := resetBit 7 (.reg .b) s

/-- R192: `RES 7,C`. -/
def execRes7C (s : State) : Result := resetBit 7 (.reg .c) s

/-- R192: `RES 7,D`. -/
def execRes7D (s : State) : Result := resetBit 7 (.reg .d) s

/-- R192: `RES 7,E`. -/
def execRes7E (s : State) : Result := resetBit 7 (.reg .e) s

/-- R192: `RES 7,H`. -/
def execRes7H (s : State) : Result := resetBit 7 (.reg .h) s

/-- R192: `RES 7,L`. -/
def execRes7L (s : State) : Result := resetBit 7 (.reg .l) s

/-- R193: `RES 7,(HL)`. -/
def execRes7Mem (s : State) : Result := resetBit 7 .mem s

/-- R192: `RES 7,A`. -/
def execRes7A (s : State) : Result := resetBit 7 (.reg .a) s

end Sys2Proof.Machine
end

