-- ==== Sys2Proof/Machine/BitSet.lean ====
section
/-! DEFINITION. The meanings of SET (44_cb_bit.md R194, R195). PC is past both bytes. -/

namespace Sys2Proof.Machine

/-- R194: `SET 0,B`. -/
def execSet0B (s : State) : Result := setBit 0 (.reg .b) s

/-- R194: `SET 0,C`. -/
def execSet0C (s : State) : Result := setBit 0 (.reg .c) s

/-- R194: `SET 0,D`. -/
def execSet0D (s : State) : Result := setBit 0 (.reg .d) s

/-- R194: `SET 0,E`. -/
def execSet0E (s : State) : Result := setBit 0 (.reg .e) s

/-- R194: `SET 0,H`. -/
def execSet0H (s : State) : Result := setBit 0 (.reg .h) s

/-- R194: `SET 0,L`. -/
def execSet0L (s : State) : Result := setBit 0 (.reg .l) s

/-- R195: `SET 0,(HL)`. -/
def execSet0Mem (s : State) : Result := setBit 0 .mem s

/-- R194: `SET 0,A`. -/
def execSet0A (s : State) : Result := setBit 0 (.reg .a) s

/-- R194: `SET 1,B`. -/
def execSet1B (s : State) : Result := setBit 1 (.reg .b) s

/-- R194: `SET 1,C`. -/
def execSet1C (s : State) : Result := setBit 1 (.reg .c) s

/-- R194: `SET 1,D`. -/
def execSet1D (s : State) : Result := setBit 1 (.reg .d) s

/-- R194: `SET 1,E`. -/
def execSet1E (s : State) : Result := setBit 1 (.reg .e) s

/-- R194: `SET 1,H`. -/
def execSet1H (s : State) : Result := setBit 1 (.reg .h) s

/-- R194: `SET 1,L`. -/
def execSet1L (s : State) : Result := setBit 1 (.reg .l) s

/-- R195: `SET 1,(HL)`. -/
def execSet1Mem (s : State) : Result := setBit 1 .mem s

/-- R194: `SET 1,A`. -/
def execSet1A (s : State) : Result := setBit 1 (.reg .a) s

/-- R194: `SET 2,B`. -/
def execSet2B (s : State) : Result := setBit 2 (.reg .b) s

/-- R194: `SET 2,C`. -/
def execSet2C (s : State) : Result := setBit 2 (.reg .c) s

/-- R194: `SET 2,D`. -/
def execSet2D (s : State) : Result := setBit 2 (.reg .d) s

/-- R194: `SET 2,E`. -/
def execSet2E (s : State) : Result := setBit 2 (.reg .e) s

/-- R194: `SET 2,H`. -/
def execSet2H (s : State) : Result := setBit 2 (.reg .h) s

/-- R194: `SET 2,L`. -/
def execSet2L (s : State) : Result := setBit 2 (.reg .l) s

/-- R195: `SET 2,(HL)`. -/
def execSet2Mem (s : State) : Result := setBit 2 .mem s

/-- R194: `SET 2,A`. -/
def execSet2A (s : State) : Result := setBit 2 (.reg .a) s

/-- R194: `SET 3,B`. -/
def execSet3B (s : State) : Result := setBit 3 (.reg .b) s

/-- R194: `SET 3,C`. -/
def execSet3C (s : State) : Result := setBit 3 (.reg .c) s

/-- R194: `SET 3,D`. -/
def execSet3D (s : State) : Result := setBit 3 (.reg .d) s

/-- R194: `SET 3,E`. -/
def execSet3E (s : State) : Result := setBit 3 (.reg .e) s

/-- R194: `SET 3,H`. -/
def execSet3H (s : State) : Result := setBit 3 (.reg .h) s

/-- R194: `SET 3,L`. -/
def execSet3L (s : State) : Result := setBit 3 (.reg .l) s

/-- R195: `SET 3,(HL)`. -/
def execSet3Mem (s : State) : Result := setBit 3 .mem s

/-- R194: `SET 3,A`. -/
def execSet3A (s : State) : Result := setBit 3 (.reg .a) s

/-- R194: `SET 4,B`. -/
def execSet4B (s : State) : Result := setBit 4 (.reg .b) s

/-- R194: `SET 4,C`. -/
def execSet4C (s : State) : Result := setBit 4 (.reg .c) s

/-- R194: `SET 4,D`. -/
def execSet4D (s : State) : Result := setBit 4 (.reg .d) s

/-- R194: `SET 4,E`. -/
def execSet4E (s : State) : Result := setBit 4 (.reg .e) s

/-- R194: `SET 4,H`. -/
def execSet4H (s : State) : Result := setBit 4 (.reg .h) s

/-- R194: `SET 4,L`. -/
def execSet4L (s : State) : Result := setBit 4 (.reg .l) s

/-- R195: `SET 4,(HL)`. -/
def execSet4Mem (s : State) : Result := setBit 4 .mem s

/-- R194: `SET 4,A`. -/
def execSet4A (s : State) : Result := setBit 4 (.reg .a) s

/-- R194: `SET 5,B`. -/
def execSet5B (s : State) : Result := setBit 5 (.reg .b) s

/-- R194: `SET 5,C`. -/
def execSet5C (s : State) : Result := setBit 5 (.reg .c) s

/-- R194: `SET 5,D`. -/
def execSet5D (s : State) : Result := setBit 5 (.reg .d) s

/-- R194: `SET 5,E`. -/
def execSet5E (s : State) : Result := setBit 5 (.reg .e) s

/-- R194: `SET 5,H`. -/
def execSet5H (s : State) : Result := setBit 5 (.reg .h) s

/-- R194: `SET 5,L`. -/
def execSet5L (s : State) : Result := setBit 5 (.reg .l) s

/-- R195: `SET 5,(HL)`. -/
def execSet5Mem (s : State) : Result := setBit 5 .mem s

/-- R194: `SET 5,A`. -/
def execSet5A (s : State) : Result := setBit 5 (.reg .a) s

/-- R194: `SET 6,B`. -/
def execSet6B (s : State) : Result := setBit 6 (.reg .b) s

/-- R194: `SET 6,C`. -/
def execSet6C (s : State) : Result := setBit 6 (.reg .c) s

/-- R194: `SET 6,D`. -/
def execSet6D (s : State) : Result := setBit 6 (.reg .d) s

/-- R194: `SET 6,E`. -/
def execSet6E (s : State) : Result := setBit 6 (.reg .e) s

/-- R194: `SET 6,H`. -/
def execSet6H (s : State) : Result := setBit 6 (.reg .h) s

/-- R194: `SET 6,L`. -/
def execSet6L (s : State) : Result := setBit 6 (.reg .l) s

/-- R195: `SET 6,(HL)`. -/
def execSet6Mem (s : State) : Result := setBit 6 .mem s

/-- R194: `SET 6,A`. -/
def execSet6A (s : State) : Result := setBit 6 (.reg .a) s

/-- R194: `SET 7,B`. -/
def execSet7B (s : State) : Result := setBit 7 (.reg .b) s

/-- R194: `SET 7,C`. -/
def execSet7C (s : State) : Result := setBit 7 (.reg .c) s

/-- R194: `SET 7,D`. -/
def execSet7D (s : State) : Result := setBit 7 (.reg .d) s

/-- R194: `SET 7,E`. -/
def execSet7E (s : State) : Result := setBit 7 (.reg .e) s

/-- R194: `SET 7,H`. -/
def execSet7H (s : State) : Result := setBit 7 (.reg .h) s

/-- R194: `SET 7,L`. -/
def execSet7L (s : State) : Result := setBit 7 (.reg .l) s

/-- R195: `SET 7,(HL)`. -/
def execSet7Mem (s : State) : Result := setBit 7 .mem s

/-- R194: `SET 7,A`. -/
def execSet7A (s : State) : Result := setBit 7 (.reg .a) s

end Sys2Proof.Machine
end

