-- ==== Sys2Proof/Machine/BitTest.lean ====
section
/-! DEFINITION. The meanings of BIT (44_cb_bit.md R190, R191). PC is past both bytes. -/

namespace Sys2Proof.Machine

/-- R190: `BIT 0,B`. -/
def execBit0B (s : State) : Result := testBit 0 (.reg .b) s

/-- R190: `BIT 0,C`. -/
def execBit0C (s : State) : Result := testBit 0 (.reg .c) s

/-- R190: `BIT 0,D`. -/
def execBit0D (s : State) : Result := testBit 0 (.reg .d) s

/-- R190: `BIT 0,E`. -/
def execBit0E (s : State) : Result := testBit 0 (.reg .e) s

/-- R190: `BIT 0,H`. -/
def execBit0H (s : State) : Result := testBit 0 (.reg .h) s

/-- R190: `BIT 0,L`. -/
def execBit0L (s : State) : Result := testBit 0 (.reg .l) s

/-- R191: `BIT 0,(HL)`. -/
def execBit0Mem (s : State) : Result := testBit 0 .mem s

/-- R190: `BIT 0,A`. -/
def execBit0A (s : State) : Result := testBit 0 (.reg .a) s

/-- R190: `BIT 1,B`. -/
def execBit1B (s : State) : Result := testBit 1 (.reg .b) s

/-- R190: `BIT 1,C`. -/
def execBit1C (s : State) : Result := testBit 1 (.reg .c) s

/-- R190: `BIT 1,D`. -/
def execBit1D (s : State) : Result := testBit 1 (.reg .d) s

/-- R190: `BIT 1,E`. -/
def execBit1E (s : State) : Result := testBit 1 (.reg .e) s

/-- R190: `BIT 1,H`. -/
def execBit1H (s : State) : Result := testBit 1 (.reg .h) s

/-- R190: `BIT 1,L`. -/
def execBit1L (s : State) : Result := testBit 1 (.reg .l) s

/-- R191: `BIT 1,(HL)`. -/
def execBit1Mem (s : State) : Result := testBit 1 .mem s

/-- R190: `BIT 1,A`. -/
def execBit1A (s : State) : Result := testBit 1 (.reg .a) s

/-- R190: `BIT 2,B`. -/
def execBit2B (s : State) : Result := testBit 2 (.reg .b) s

/-- R190: `BIT 2,C`. -/
def execBit2C (s : State) : Result := testBit 2 (.reg .c) s

/-- R190: `BIT 2,D`. -/
def execBit2D (s : State) : Result := testBit 2 (.reg .d) s

/-- R190: `BIT 2,E`. -/
def execBit2E (s : State) : Result := testBit 2 (.reg .e) s

/-- R190: `BIT 2,H`. -/
def execBit2H (s : State) : Result := testBit 2 (.reg .h) s

/-- R190: `BIT 2,L`. -/
def execBit2L (s : State) : Result := testBit 2 (.reg .l) s

/-- R191: `BIT 2,(HL)`. -/
def execBit2Mem (s : State) : Result := testBit 2 .mem s

/-- R190: `BIT 2,A`. -/
def execBit2A (s : State) : Result := testBit 2 (.reg .a) s

/-- R190: `BIT 3,B`. -/
def execBit3B (s : State) : Result := testBit 3 (.reg .b) s

/-- R190: `BIT 3,C`. -/
def execBit3C (s : State) : Result := testBit 3 (.reg .c) s

/-- R190: `BIT 3,D`. -/
def execBit3D (s : State) : Result := testBit 3 (.reg .d) s

/-- R190: `BIT 3,E`. -/
def execBit3E (s : State) : Result := testBit 3 (.reg .e) s

/-- R190: `BIT 3,H`. -/
def execBit3H (s : State) : Result := testBit 3 (.reg .h) s

/-- R190: `BIT 3,L`. -/
def execBit3L (s : State) : Result := testBit 3 (.reg .l) s

/-- R191: `BIT 3,(HL)`. -/
def execBit3Mem (s : State) : Result := testBit 3 .mem s

/-- R190: `BIT 3,A`. -/
def execBit3A (s : State) : Result := testBit 3 (.reg .a) s

/-- R190: `BIT 4,B`. -/
def execBit4B (s : State) : Result := testBit 4 (.reg .b) s

/-- R190: `BIT 4,C`. -/
def execBit4C (s : State) : Result := testBit 4 (.reg .c) s

/-- R190: `BIT 4,D`. -/
def execBit4D (s : State) : Result := testBit 4 (.reg .d) s

/-- R190: `BIT 4,E`. -/
def execBit4E (s : State) : Result := testBit 4 (.reg .e) s

/-- R190: `BIT 4,H`. -/
def execBit4H (s : State) : Result := testBit 4 (.reg .h) s

/-- R190: `BIT 4,L`. -/
def execBit4L (s : State) : Result := testBit 4 (.reg .l) s

/-- R191: `BIT 4,(HL)`. -/
def execBit4Mem (s : State) : Result := testBit 4 .mem s

/-- R190: `BIT 4,A`. -/
def execBit4A (s : State) : Result := testBit 4 (.reg .a) s

/-- R190: `BIT 5,B`. -/
def execBit5B (s : State) : Result := testBit 5 (.reg .b) s

/-- R190: `BIT 5,C`. -/
def execBit5C (s : State) : Result := testBit 5 (.reg .c) s

/-- R190: `BIT 5,D`. -/
def execBit5D (s : State) : Result := testBit 5 (.reg .d) s

/-- R190: `BIT 5,E`. -/
def execBit5E (s : State) : Result := testBit 5 (.reg .e) s

/-- R190: `BIT 5,H`. -/
def execBit5H (s : State) : Result := testBit 5 (.reg .h) s

/-- R190: `BIT 5,L`. -/
def execBit5L (s : State) : Result := testBit 5 (.reg .l) s

/-- R191: `BIT 5,(HL)`. -/
def execBit5Mem (s : State) : Result := testBit 5 .mem s

/-- R190: `BIT 5,A`. -/
def execBit5A (s : State) : Result := testBit 5 (.reg .a) s

/-- R190: `BIT 6,B`. -/
def execBit6B (s : State) : Result := testBit 6 (.reg .b) s

/-- R190: `BIT 6,C`. -/
def execBit6C (s : State) : Result := testBit 6 (.reg .c) s

/-- R190: `BIT 6,D`. -/
def execBit6D (s : State) : Result := testBit 6 (.reg .d) s

/-- R190: `BIT 6,E`. -/
def execBit6E (s : State) : Result := testBit 6 (.reg .e) s

/-- R190: `BIT 6,H`. -/
def execBit6H (s : State) : Result := testBit 6 (.reg .h) s

/-- R190: `BIT 6,L`. -/
def execBit6L (s : State) : Result := testBit 6 (.reg .l) s

/-- R191: `BIT 6,(HL)`. -/
def execBit6Mem (s : State) : Result := testBit 6 .mem s

/-- R190: `BIT 6,A`. -/
def execBit6A (s : State) : Result := testBit 6 (.reg .a) s

/-- R190: `BIT 7,B`. -/
def execBit7B (s : State) : Result := testBit 7 (.reg .b) s

/-- R190: `BIT 7,C`. -/
def execBit7C (s : State) : Result := testBit 7 (.reg .c) s

/-- R190: `BIT 7,D`. -/
def execBit7D (s : State) : Result := testBit 7 (.reg .d) s

/-- R190: `BIT 7,E`. -/
def execBit7E (s : State) : Result := testBit 7 (.reg .e) s

/-- R190: `BIT 7,H`. -/
def execBit7H (s : State) : Result := testBit 7 (.reg .h) s

/-- R190: `BIT 7,L`. -/
def execBit7L (s : State) : Result := testBit 7 (.reg .l) s

/-- R191: `BIT 7,(HL)`. -/
def execBit7Mem (s : State) : Result := testBit 7 .mem s

/-- R190: `BIT 7,A`. -/
def execBit7A (s : State) : Result := testBit 7 (.reg .a) s

end Sys2Proof.Machine
end

