-- ==== Sys2Proof/Machine/Branch.lean ====
section
/-! DEFINITION. The meaning of JR NZ,e8, the one control transfer (42_branch.md R170 to R172). -/

namespace Sys2Proof.Machine

/-- R170: `JR NZ,e8`. PC is past the displacement byte, pc0 + 2, which is the branch base (R171); the
target wraps modulo 2^16. Reads Z only and writes no flag. -/
def execJrNzE8 (e : Byte) (s : State) : Result :=
  if flagZ s.f then complete 8 s else complete 12 (s.setPc (s.pc + sext16 e))

end Sys2Proof.Machine
end

