-- ==== Sys2Proof/WellFormed.lean ====
section
/-! DEFINITION. Which terms of `Instr` are instructions. Immediates are typed by their width, so
they need no check; the one check is on the CB escape. -/

namespace Sys2Proof

/-- R101: a sub-opcode the secondary table has no handler for: 0x20 to 0x3F, `001xxxxx`. -/
def subUnimplemented (sub : Byte) : Bool := 0x20#8 ≤ sub && sub < 0x40#8

/-- A term is well formed when it is what its own bytes decode to. `cbPrefix sub` is well formed
only for a sub-opcode without a row of its own (R100, R101): the bytes of the others are the
secondary rows' instructions. -/
def Instr.wf : Instr → Bool
  | .nop => true
  | .ldBcD16 _ => true
  | .ldBD8 _ => true
  | .ldCD8 _ => true
  | .ldDeD16 _ => true
  | .ldDD8 _ => true
  | .ldED8 _ => true
  | .jrNzE8 _ => true
  | .ldHlD16 _ => true
  | .ldHlIncA => true
  | .ldHD8 _ => true
  | .ldLD8 _ => true
  | .ldSpD16 _ => true
  | .ldHlDecA => true
  | .ldMemD8 _ => true
  | .ldAD8 _ => true
  | .ldBB => true
  | .ldBC => true
  | .ldBD => true
  | .ldBE => true
  | .ldBH => true
  | .ldBL => true
  | .ldBMem => true
  | .ldBA => true
  | .ldCB => true
  | .ldCC => true
  | .ldCD => true
  | .ldCE => true
  | .ldCH => true
  | .ldCL => true
  | .ldCMem => true
  | .ldCA => true
  | .ldDB => true
  | .ldDC => true
  | .ldDD => true
  | .ldDE => true
  | .ldDH => true
  | .ldDL => true
  | .ldDMem => true
  | .ldDA => true
  | .ldEB => true
  | .ldEC => true
  | .ldED => true
  | .ldEE => true
  | .ldEH => true
  | .ldEL => true
  | .ldEMem => true
  | .ldEA => true
  | .ldHB => true
  | .ldHC => true
  | .ldHD => true
  | .ldHE => true
  | .ldHH => true
  | .ldHL => true
  | .ldHMem => true
  | .ldHA => true
  | .ldLB => true
  | .ldLC => true
  | .ldLD => true
  | .ldLE => true
  | .ldLH => true
  | .ldLL => true
  | .ldLMem => true
  | .ldLA => true
  | .ldMemB => true
  | .ldMemC => true
  | .ldMemD => true
  | .ldMemE => true
  | .ldMemH => true
  | .ldMemL => true
  | .ldMemA => true
  | .ldAB => true
  | .ldAC => true
  | .ldAD => true
  | .ldAE => true
  | .ldAH => true
  | .ldAL => true
  | .ldAMem => true
  | .ldAA => true
  | .xorB => true
  | .xorC => true
  | .xorD => true
  | .xorE => true
  | .xorH => true
  | .xorL => true
  | .xorA => true
  | .orB => true
  | .orC => true
  | .orD => true
  | .orE => true
  | .orH => true
  | .orL => true
  | .orA => true
  | .cbPrefix sub => subUnimplemented sub
  | .rlcB => true
  | .rlcC => true
  | .rlcD => true
  | .rlcE => true
  | .rlcH => true
  | .rlcL => true
  | .rlcMem => true
  | .rlcA => true
  | .rrcB => true
  | .rrcC => true
  | .rrcD => true
  | .rrcE => true
  | .rrcH => true
  | .rrcL => true
  | .rrcMem => true
  | .rrcA => true
  | .rlB => true
  | .rlC => true
  | .rlD => true
  | .rlE => true
  | .rlH => true
  | .rlL => true
  | .rlMem => true
  | .rlA => true
  | .rrB => true
  | .rrC => true
  | .rrD => true
  | .rrE => true
  | .rrH => true
  | .rrL => true
  | .rrMem => true
  | .rrA => true
  | .bit0B => true
  | .bit0C => true
  | .bit0D => true
  | .bit0E => true
  | .bit0H => true
  | .bit0L => true
  | .bit0Mem => true
  | .bit0A => true
  | .bit1B => true
  | .bit1C => true
  | .bit1D => true
  | .bit1E => true
  | .bit1H => true
  | .bit1L => true
  | .bit1Mem => true
  | .bit1A => true
  | .bit2B => true
  | .bit2C => true
  | .bit2D => true
  | .bit2E => true
  | .bit2H => true
  | .bit2L => true
  | .bit2Mem => true
  | .bit2A => true
  | .bit3B => true
  | .bit3C => true
  | .bit3D => true
  | .bit3E => true
  | .bit3H => true
  | .bit3L => true
  | .bit3Mem => true
  | .bit3A => true
  | .bit4B => true
  | .bit4C => true
  | .bit4D => true
  | .bit4E => true
  | .bit4H => true
  | .bit4L => true
  | .bit4Mem => true
  | .bit4A => true
  | .bit5B => true
  | .bit5C => true
  | .bit5D => true
  | .bit5E => true
  | .bit5H => true
  | .bit5L => true
  | .bit5Mem => true
  | .bit5A => true
  | .bit6B => true
  | .bit6C => true
  | .bit6D => true
  | .bit6E => true
  | .bit6H => true
  | .bit6L => true
  | .bit6Mem => true
  | .bit6A => true
  | .bit7B => true
  | .bit7C => true
  | .bit7D => true
  | .bit7E => true
  | .bit7H => true
  | .bit7L => true
  | .bit7Mem => true
  | .bit7A => true
  | .res0B => true
  | .res0C => true
  | .res0D => true
  | .res0E => true
  | .res0H => true
  | .res0L => true
  | .res0Mem => true
  | .res0A => true
  | .res1B => true
  | .res1C => true
  | .res1D => true
  | .res1E => true
  | .res1H => true
  | .res1L => true
  | .res1Mem => true
  | .res1A => true
  | .res2B => true
  | .res2C => true
  | .res2D => true
  | .res2E => true
  | .res2H => true
  | .res2L => true
  | .res2Mem => true
  | .res2A => true
  | .res3B => true
  | .res3C => true
  | .res3D => true
  | .res3E => true
  | .res3H => true
  | .res3L => true
  | .res3Mem => true
  | .res3A => true
  | .res4B => true
  | .res4C => true
  | .res4D => true
  | .res4E => true
  | .res4H => true
  | .res4L => true
  | .res4Mem => true
  | .res4A => true
  | .res5B => true
  | .res5C => true
  | .res5D => true
  | .res5E => true
  | .res5H => true
  | .res5L => true
  | .res5Mem => true
  | .res5A => true
  | .res6B => true
  | .res6C => true
  | .res6D => true
  | .res6E => true
  | .res6H => true
  | .res6L => true
  | .res6Mem => true
  | .res6A => true
  | .res7B => true
  | .res7C => true
  | .res7D => true
  | .res7E => true
  | .res7H => true
  | .res7L => true
  | .res7Mem => true
  | .res7A => true
  | .set0B => true
  | .set0C => true
  | .set0D => true
  | .set0E => true
  | .set0H => true
  | .set0L => true
  | .set0Mem => true
  | .set0A => true
  | .set1B => true
  | .set1C => true
  | .set1D => true
  | .set1E => true
  | .set1H => true
  | .set1L => true
  | .set1Mem => true
  | .set1A => true
  | .set2B => true
  | .set2C => true
  | .set2D => true
  | .set2E => true
  | .set2H => true
  | .set2L => true
  | .set2Mem => true
  | .set2A => true
  | .set3B => true
  | .set3C => true
  | .set3D => true
  | .set3E => true
  | .set3H => true
  | .set3L => true
  | .set3Mem => true
  | .set3A => true
  | .set4B => true
  | .set4C => true
  | .set4D => true
  | .set4E => true
  | .set4H => true
  | .set4L => true
  | .set4Mem => true
  | .set4A => true
  | .set5B => true
  | .set5C => true
  | .set5D => true
  | .set5E => true
  | .set5H => true
  | .set5L => true
  | .set5Mem => true
  | .set5A => true
  | .set6B => true
  | .set6C => true
  | .set6D => true
  | .set6E => true
  | .set6H => true
  | .set6L => true
  | .set6Mem => true
  | .set6A => true
  | .set7B => true
  | .set7C => true
  | .set7D => true
  | .set7E => true
  | .set7H => true
  | .set7L => true
  | .set7Mem => true
  | .set7A => true

/-- `i` is an instruction. -/
abbrev WellFormed (i : Instr) : Prop := i.wf = true

end Sys2Proof
end

