-- ==== Sys2Proof/Decode.lean ====
section
/-! DEFINITION. Decoding (30_encoding.md): the families of R91 and R92 by their bit fields, total on
any bytes, with a named rejection; then the encoder, written from the opcode maps R99 and R100 value
by value, so that the two are independent readings of the encoding. -/

namespace Sys2Proof

open Sys2Proof.Machine

/-! ### Operand codes -/

/-- One value per register, in the order of R93 (B C D E H L A). -/
def Reg8.pick {α : Type} (r : Reg8) (b c d e h l a : α) : α :=
  match r with
  | .b => b
  | .c => c
  | .d => d
  | .e => e
  | .h => h
  | .l => l
  | .a => a

/-- One value per operand, in the order of R93 (B C D E H L (HL) A). -/
def Operand.pick {α : Type} (z : Operand) (b c d e h l m a : α) : α :=
  match z with
  | .reg r => r.pick b c d e h l a
  | .mem => m

/-- R93: the operand a 3-bit code names. -/
def Operand.ofCode (code : BitVec 3) : Operand :=
  match code.toNat with
  | 0 => .reg .b
  | 1 => .reg .c
  | 2 => .reg .d
  | 3 => .reg .e
  | 4 => .reg .h
  | 5 => .reg .l
  | 6 => .mem
  | _ => .reg .a

/-- R94: the destination a 2-bit pair code names. -/
def Dest16.ofCode (pp : BitVec 2) : Dest16 :=
  match pp.toNat with
  | 0 => .bc
  | 1 => .de
  | 2 => .hl
  | _ => .sp

/-- R91, R92: bits 7:6 of an opcode (`xx` or `ff`). -/
def field76 (op : Byte) : BitVec 2 := op.extractLsb' 6 2

/-- R91, R92: bits 5:3 of an opcode (`ddd`, `yyy` or `bbb`). -/
def field53 (op : Byte) : BitVec 3 := op.extractLsb' 3 3

/-- R91, R92: bits 2:0 of an opcode (`sss` or `zzz`). -/
def field20 (op : Byte) : BitVec 3 := op.extractLsb' 0 3

/-- R91: bits 5:4 of an opcode (`pp`). -/
def field54 (op : Byte) : BitVec 2 := op.extractLsb' 4 2

/-- R98: the bit index a 3-bit field holds, an unsigned number 0 to 7. -/
def bitIndex (bbb : BitVec 3) : Fin 8 := ⟨bbb.toNat, bbb.isLt⟩

/-! ### The families: the instruction for each choice of operands -/

/-- R141: LD rr,d16. -/
def Instr.ldPairImm (rr : Dest16) (v : Word) : Instr :=
  match rr with
  | .bc => .ldBcD16 v
  | .de => .ldDeD16 v
  | .hl => .ldHlD16 v
  | .sp => .ldSpD16 v

/-- R142: LD r,d8. -/
def Instr.ldRegImm (r : Reg8) (v : Byte) : Instr :=
  r.pick (.ldBD8 v) (.ldCD8 v) (.ldDD8 v) (.ldED8 v) (.ldHD8 v) (.ldLD8 v) (.ldAD8 v)

/-- R144: LD r,r', the 49 register-to-register cells of the copy matrix. -/
def Instr.ldRegReg (dst src : Reg8) : Instr :=
  dst.pick
    (src.pick .ldBB .ldBC .ldBD .ldBE .ldBH .ldBL .ldBA)
    (src.pick .ldCB .ldCC .ldCD .ldCE .ldCH .ldCL .ldCA)
    (src.pick .ldDB .ldDC .ldDD .ldDE .ldDH .ldDL .ldDA)
    (src.pick .ldEB .ldEC .ldED .ldEE .ldEH .ldEL .ldEA)
    (src.pick .ldHB .ldHC .ldHD .ldHE .ldHH .ldHL .ldHA)
    (src.pick .ldLB .ldLC .ldLD .ldLE .ldLH .ldLL .ldLA)
    (src.pick .ldAB .ldAC .ldAD .ldAE .ldAH .ldAL .ldAA)

/-- R145: LD r,(HL). -/
def Instr.ldRegMem (dst : Reg8) : Instr :=
  dst.pick .ldBMem .ldCMem .ldDMem .ldEMem .ldHMem .ldLMem .ldAMem

/-- R146: LD (HL),r. -/
def Instr.ldMemReg (src : Reg8) : Instr :=
  src.pick .ldMemB .ldMemC .ldMemD .ldMemE .ldMemH .ldMemL .ldMemA

/-- R180: XOR r. -/
def Instr.xorReg (r : Reg8) : Instr :=
  r.pick .xorB .xorC .xorD .xorE .xorH .xorL .xorA

/-- R181: OR r. -/
def Instr.orReg (r : Reg8) : Instr :=
  r.pick .orB .orC .orD .orE .orH .orL .orA

/-- R210, R211: RLC r and RLC (HL). -/
def Instr.rlcOn (z : Operand) : Instr :=
  z.pick .rlcB .rlcC .rlcD .rlcE .rlcH .rlcL .rlcMem .rlcA

/-- R212, R213: RRC r and RRC (HL). -/
def Instr.rrcOn (z : Operand) : Instr :=
  z.pick .rrcB .rrcC .rrcD .rrcE .rrcH .rrcL .rrcMem .rrcA

/-- R214, R215: RL r and RL (HL). -/
def Instr.rlOn (z : Operand) : Instr :=
  z.pick .rlB .rlC .rlD .rlE .rlH .rlL .rlMem .rlA

/-- R216, R217: RR r and RR (HL). -/
def Instr.rrOn (z : Operand) : Instr :=
  z.pick .rrB .rrC .rrD .rrE .rrH .rrL .rrMem .rrA

/-- R190, R191: BIT b,r and BIT b,(HL). -/
def Instr.bitOn (n : Fin 8) (z : Operand) : Instr :=
  match n.val with
  | 0 => z.pick .bit0B .bit0C .bit0D .bit0E .bit0H .bit0L .bit0Mem .bit0A
  | 1 => z.pick .bit1B .bit1C .bit1D .bit1E .bit1H .bit1L .bit1Mem .bit1A
  | 2 => z.pick .bit2B .bit2C .bit2D .bit2E .bit2H .bit2L .bit2Mem .bit2A
  | 3 => z.pick .bit3B .bit3C .bit3D .bit3E .bit3H .bit3L .bit3Mem .bit3A
  | 4 => z.pick .bit4B .bit4C .bit4D .bit4E .bit4H .bit4L .bit4Mem .bit4A
  | 5 => z.pick .bit5B .bit5C .bit5D .bit5E .bit5H .bit5L .bit5Mem .bit5A
  | 6 => z.pick .bit6B .bit6C .bit6D .bit6E .bit6H .bit6L .bit6Mem .bit6A
  | _ => z.pick .bit7B .bit7C .bit7D .bit7E .bit7H .bit7L .bit7Mem .bit7A

/-- R192, R193: RES b,r and RES b,(HL). -/
def Instr.resOn (n : Fin 8) (z : Operand) : Instr :=
  match n.val with
  | 0 => z.pick .res0B .res0C .res0D .res0E .res0H .res0L .res0Mem .res0A
  | 1 => z.pick .res1B .res1C .res1D .res1E .res1H .res1L .res1Mem .res1A
  | 2 => z.pick .res2B .res2C .res2D .res2E .res2H .res2L .res2Mem .res2A
  | 3 => z.pick .res3B .res3C .res3D .res3E .res3H .res3L .res3Mem .res3A
  | 4 => z.pick .res4B .res4C .res4D .res4E .res4H .res4L .res4Mem .res4A
  | 5 => z.pick .res5B .res5C .res5D .res5E .res5H .res5L .res5Mem .res5A
  | 6 => z.pick .res6B .res6C .res6D .res6E .res6H .res6L .res6Mem .res6A
  | _ => z.pick .res7B .res7C .res7D .res7E .res7H .res7L .res7Mem .res7A

/-- R194, R195: SET b,r and SET b,(HL). -/
def Instr.setOn (n : Fin 8) (z : Operand) : Instr :=
  match n.val with
  | 0 => z.pick .set0B .set0C .set0D .set0E .set0H .set0L .set0Mem .set0A
  | 1 => z.pick .set1B .set1C .set1D .set1E .set1H .set1L .set1Mem .set1A
  | 2 => z.pick .set2B .set2C .set2D .set2E .set2H .set2L .set2Mem .set2A
  | 3 => z.pick .set3B .set3C .set3D .set3E .set3H .set3L .set3Mem .set3A
  | 4 => z.pick .set4B .set4C .set4D .set4E .set4H .set4L .set4Mem .set4A
  | 5 => z.pick .set5B .set5C .set5D .set5E .set5H .set5L .set5Mem .set5A
  | 6 => z.pick .set6B .set6C .set6D .set6E .set6H .set6L .set6Mem .set6A
  | _ => z.pick .set7B .set7C .set7D .set7E .set7H .set7L .set7Mem .set7A

/-! ### Decoding -/

/-- What follows a primary opcode in the instruction (R90): nothing, one byte (`d8`, `e8`, or the
sub-opcode of the CB escape), or a 16-bit little-endian immediate. -/
inductive Form where
  | op (i : Instr)
  | byte (mk : Byte → Instr)
  | word (mk : Word → Instr)

/-- A form of no further bytes, if there is one. -/
def Form.ofCopy : Operand → Operand → Option Form
  | .reg dst, .reg src => some (.op (Instr.ldRegReg dst src))
  | .reg dst, .mem => some (.op (Instr.ldRegMem dst))
  | .mem, .reg src => some (.op (Instr.ldMemReg src))
  | .mem, .mem => none

/-- R92: the secondary table, by the fields of the sub-opcode. The rotate group with `yyy` 100 to
111 has no handler (R101); its bytes stay the escape's own. -/
def secondary (sub : Byte) : Instr :=
  let z := Operand.ofCode (field20 sub)
  let n := bitIndex (field53 sub)
  match (field76 sub).toNat with
  | 0 =>
    match (field53 sub).toNat with
    | 0 => Instr.rlcOn z
    | 1 => Instr.rrcOn z
    | 2 => Instr.rlOn z
    | 3 => Instr.rrOn z
    | _ => .cbPrefix sub
  | 1 => Instr.bitOn n z
  | 2 => Instr.resOn n z
  | _ => Instr.setOn n z

/-- R91: the primary table, by the patterns of its families. `none` is an opcode with no handler
(R101), the HALT slot 0x76 (R102) and the (HL) cells of XOR and OR among them. -/
def primary (op : Byte) : Option Form :=
  let ddd := Operand.ofCode (field53 op)
  let sss := Operand.ofCode (field20 op)
  if op = 0b00000000#8 then some (.op .nop)
  else if op &&& 0b11001111#8 = 0b00000001#8 then some (.word (Instr.ldPairImm (Dest16.ofCode (field54 op))))
  else if op &&& 0b11000111#8 = 0b00000110#8 then
    match ddd with
    | .reg r => some (.byte (Instr.ldRegImm r))
    | .mem => some (.byte .ldMemD8)
  else if op = 0b00100010#8 then some (.op .ldHlIncA)
  else if op = 0b00110010#8 then some (.op .ldHlDecA)
  else if op = 0b00100000#8 then some (.byte .jrNzE8)
  else if op &&& 0b11000000#8 = 0b01000000#8 then Form.ofCopy ddd sss
  else if op &&& 0b11111000#8 = 0b10101000#8 then
    match sss with
    | .reg r => some (.op (Instr.xorReg r))
    | .mem => none
  else if op &&& 0b11111000#8 = 0b10110000#8 then
    match sss with
    | .reg r => some (.op (Instr.orReg r))
    | .mem => none
  else if op = 0b11001011#8 then some (.byte secondary)
  else none

/-- Why bytes are no instruction: no handler for the primary opcode (R101), or fewer bytes than the
first one calls for. -/
inductive Reject where
  | unimplementedPrimary (op : Byte)
  | truncated
deriving DecidableEq, Repr

/-- R104: the length of an instruction from its first byte alone. -/
def lengthOfFirst (op : Byte) : Option Nat :=
  match primary op with
  | none => none
  | some (.op _) => some 1
  | some (.byte _) => some 2
  | some (.word _) => some 3

/-- R90, R96: the instruction at the front of a list of bytes, and the bytes after it. -/
def decode : List Byte → Except Reject (Instr × List Byte)
  | [] => .error .truncated
  | op :: rest =>
    match primary op, rest with
    | none, _ => .error (.unimplementedPrimary op)
    | some (.op i), rest => .ok (i, rest)
    | some (.byte mk), v :: rest => .ok (mk v, rest)
    | some (.word mk), lo :: hi :: rest => .ok (mk (joinBytes hi lo), rest)
    | some (.byte _), [] => .error .truncated
    | some (.word _), [] => .error .truncated
    | some (.word _), [_] => .error .truncated

/-! ### Encoding -/

/-- R99, R100: the bytes of an instruction, byte 0 first; a 16-bit immediate low byte first (R96). -/
def encode : Instr → List Byte
  | .nop => [0x00#8]
  | .ldBcD16 v => [0x01#8, lowByte v, highByte v]
  | .ldBD8 v => [0x06#8, v]
  | .ldCD8 v => [0x0E#8, v]
  | .ldDeD16 v => [0x11#8, lowByte v, highByte v]
  | .ldDD8 v => [0x16#8, v]
  | .ldED8 v => [0x1E#8, v]
  | .jrNzE8 v => [0x20#8, v]
  | .ldHlD16 v => [0x21#8, lowByte v, highByte v]
  | .ldHlIncA => [0x22#8]
  | .ldHD8 v => [0x26#8, v]
  | .ldLD8 v => [0x2E#8, v]
  | .ldSpD16 v => [0x31#8, lowByte v, highByte v]
  | .ldHlDecA => [0x32#8]
  | .ldMemD8 v => [0x36#8, v]
  | .ldAD8 v => [0x3E#8, v]
  | .ldBB => [0x40#8]
  | .ldBC => [0x41#8]
  | .ldBD => [0x42#8]
  | .ldBE => [0x43#8]
  | .ldBH => [0x44#8]
  | .ldBL => [0x45#8]
  | .ldBMem => [0x46#8]
  | .ldBA => [0x47#8]
  | .ldCB => [0x48#8]
  | .ldCC => [0x49#8]
  | .ldCD => [0x4A#8]
  | .ldCE => [0x4B#8]
  | .ldCH => [0x4C#8]
  | .ldCL => [0x4D#8]
  | .ldCMem => [0x4E#8]
  | .ldCA => [0x4F#8]
  | .ldDB => [0x50#8]
  | .ldDC => [0x51#8]
  | .ldDD => [0x52#8]
  | .ldDE => [0x53#8]
  | .ldDH => [0x54#8]
  | .ldDL => [0x55#8]
  | .ldDMem => [0x56#8]
  | .ldDA => [0x57#8]
  | .ldEB => [0x58#8]
  | .ldEC => [0x59#8]
  | .ldED => [0x5A#8]
  | .ldEE => [0x5B#8]
  | .ldEH => [0x5C#8]
  | .ldEL => [0x5D#8]
  | .ldEMem => [0x5E#8]
  | .ldEA => [0x5F#8]
  | .ldHB => [0x60#8]
  | .ldHC => [0x61#8]
  | .ldHD => [0x62#8]
  | .ldHE => [0x63#8]
  | .ldHH => [0x64#8]
  | .ldHL => [0x65#8]
  | .ldHMem => [0x66#8]
  | .ldHA => [0x67#8]
  | .ldLB => [0x68#8]
  | .ldLC => [0x69#8]
  | .ldLD => [0x6A#8]
  | .ldLE => [0x6B#8]
  | .ldLH => [0x6C#8]
  | .ldLL => [0x6D#8]
  | .ldLMem => [0x6E#8]
  | .ldLA => [0x6F#8]
  | .ldMemB => [0x70#8]
  | .ldMemC => [0x71#8]
  | .ldMemD => [0x72#8]
  | .ldMemE => [0x73#8]
  | .ldMemH => [0x74#8]
  | .ldMemL => [0x75#8]
  | .ldMemA => [0x77#8]
  | .ldAB => [0x78#8]
  | .ldAC => [0x79#8]
  | .ldAD => [0x7A#8]
  | .ldAE => [0x7B#8]
  | .ldAH => [0x7C#8]
  | .ldAL => [0x7D#8]
  | .ldAMem => [0x7E#8]
  | .ldAA => [0x7F#8]
  | .xorB => [0xA8#8]
  | .xorC => [0xA9#8]
  | .xorD => [0xAA#8]
  | .xorE => [0xAB#8]
  | .xorH => [0xAC#8]
  | .xorL => [0xAD#8]
  | .xorA => [0xAF#8]
  | .orB => [0xB0#8]
  | .orC => [0xB1#8]
  | .orD => [0xB2#8]
  | .orE => [0xB3#8]
  | .orH => [0xB4#8]
  | .orL => [0xB5#8]
  | .orA => [0xB7#8]
  | .cbPrefix sub => [0xCB#8, sub]
  | .rlcB => [0xCB#8, 0x00#8]
  | .rlcC => [0xCB#8, 0x01#8]
  | .rlcD => [0xCB#8, 0x02#8]
  | .rlcE => [0xCB#8, 0x03#8]
  | .rlcH => [0xCB#8, 0x04#8]
  | .rlcL => [0xCB#8, 0x05#8]
  | .rlcMem => [0xCB#8, 0x06#8]
  | .rlcA => [0xCB#8, 0x07#8]
  | .rrcB => [0xCB#8, 0x08#8]
  | .rrcC => [0xCB#8, 0x09#8]
  | .rrcD => [0xCB#8, 0x0A#8]
  | .rrcE => [0xCB#8, 0x0B#8]
  | .rrcH => [0xCB#8, 0x0C#8]
  | .rrcL => [0xCB#8, 0x0D#8]
  | .rrcMem => [0xCB#8, 0x0E#8]
  | .rrcA => [0xCB#8, 0x0F#8]
  | .rlB => [0xCB#8, 0x10#8]
  | .rlC => [0xCB#8, 0x11#8]
  | .rlD => [0xCB#8, 0x12#8]
  | .rlE => [0xCB#8, 0x13#8]
  | .rlH => [0xCB#8, 0x14#8]
  | .rlL => [0xCB#8, 0x15#8]
  | .rlMem => [0xCB#8, 0x16#8]
  | .rlA => [0xCB#8, 0x17#8]
  | .rrB => [0xCB#8, 0x18#8]
  | .rrC => [0xCB#8, 0x19#8]
  | .rrD => [0xCB#8, 0x1A#8]
  | .rrE => [0xCB#8, 0x1B#8]
  | .rrH => [0xCB#8, 0x1C#8]
  | .rrL => [0xCB#8, 0x1D#8]
  | .rrMem => [0xCB#8, 0x1E#8]
  | .rrA => [0xCB#8, 0x1F#8]
  | .bit0B => [0xCB#8, 0x40#8]
  | .bit0C => [0xCB#8, 0x41#8]
  | .bit0D => [0xCB#8, 0x42#8]
  | .bit0E => [0xCB#8, 0x43#8]
  | .bit0H => [0xCB#8, 0x44#8]
  | .bit0L => [0xCB#8, 0x45#8]
  | .bit0Mem => [0xCB#8, 0x46#8]
  | .bit0A => [0xCB#8, 0x47#8]
  | .bit1B => [0xCB#8, 0x48#8]
  | .bit1C => [0xCB#8, 0x49#8]
  | .bit1D => [0xCB#8, 0x4A#8]
  | .bit1E => [0xCB#8, 0x4B#8]
  | .bit1H => [0xCB#8, 0x4C#8]
  | .bit1L => [0xCB#8, 0x4D#8]
  | .bit1Mem => [0xCB#8, 0x4E#8]
  | .bit1A => [0xCB#8, 0x4F#8]
  | .bit2B => [0xCB#8, 0x50#8]
  | .bit2C => [0xCB#8, 0x51#8]
  | .bit2D => [0xCB#8, 0x52#8]
  | .bit2E => [0xCB#8, 0x53#8]
  | .bit2H => [0xCB#8, 0x54#8]
  | .bit2L => [0xCB#8, 0x55#8]
  | .bit2Mem => [0xCB#8, 0x56#8]
  | .bit2A => [0xCB#8, 0x57#8]
  | .bit3B => [0xCB#8, 0x58#8]
  | .bit3C => [0xCB#8, 0x59#8]
  | .bit3D => [0xCB#8, 0x5A#8]
  | .bit3E => [0xCB#8, 0x5B#8]
  | .bit3H => [0xCB#8, 0x5C#8]
  | .bit3L => [0xCB#8, 0x5D#8]
  | .bit3Mem => [0xCB#8, 0x5E#8]
  | .bit3A => [0xCB#8, 0x5F#8]
  | .bit4B => [0xCB#8, 0x60#8]
  | .bit4C => [0xCB#8, 0x61#8]
  | .bit4D => [0xCB#8, 0x62#8]
  | .bit4E => [0xCB#8, 0x63#8]
  | .bit4H => [0xCB#8, 0x64#8]
  | .bit4L => [0xCB#8, 0x65#8]
  | .bit4Mem => [0xCB#8, 0x66#8]
  | .bit4A => [0xCB#8, 0x67#8]
  | .bit5B => [0xCB#8, 0x68#8]
  | .bit5C => [0xCB#8, 0x69#8]
  | .bit5D => [0xCB#8, 0x6A#8]
  | .bit5E => [0xCB#8, 0x6B#8]
  | .bit5H => [0xCB#8, 0x6C#8]
  | .bit5L => [0xCB#8, 0x6D#8]
  | .bit5Mem => [0xCB#8, 0x6E#8]
  | .bit5A => [0xCB#8, 0x6F#8]
  | .bit6B => [0xCB#8, 0x70#8]
  | .bit6C => [0xCB#8, 0x71#8]
  | .bit6D => [0xCB#8, 0x72#8]
  | .bit6E => [0xCB#8, 0x73#8]
  | .bit6H => [0xCB#8, 0x74#8]
  | .bit6L => [0xCB#8, 0x75#8]
  | .bit6Mem => [0xCB#8, 0x76#8]
  | .bit6A => [0xCB#8, 0x77#8]
  | .bit7B => [0xCB#8, 0x78#8]
  | .bit7C => [0xCB#8, 0x79#8]
  | .bit7D => [0xCB#8, 0x7A#8]
  | .bit7E => [0xCB#8, 0x7B#8]
  | .bit7H => [0xCB#8, 0x7C#8]
  | .bit7L => [0xCB#8, 0x7D#8]
  | .bit7Mem => [0xCB#8, 0x7E#8]
  | .bit7A => [0xCB#8, 0x7F#8]
  | .res0B => [0xCB#8, 0x80#8]
  | .res0C => [0xCB#8, 0x81#8]
  | .res0D => [0xCB#8, 0x82#8]
  | .res0E => [0xCB#8, 0x83#8]
  | .res0H => [0xCB#8, 0x84#8]
  | .res0L => [0xCB#8, 0x85#8]
  | .res0Mem => [0xCB#8, 0x86#8]
  | .res0A => [0xCB#8, 0x87#8]
  | .res1B => [0xCB#8, 0x88#8]
  | .res1C => [0xCB#8, 0x89#8]
  | .res1D => [0xCB#8, 0x8A#8]
  | .res1E => [0xCB#8, 0x8B#8]
  | .res1H => [0xCB#8, 0x8C#8]
  | .res1L => [0xCB#8, 0x8D#8]
  | .res1Mem => [0xCB#8, 0x8E#8]
  | .res1A => [0xCB#8, 0x8F#8]
  | .res2B => [0xCB#8, 0x90#8]
  | .res2C => [0xCB#8, 0x91#8]
  | .res2D => [0xCB#8, 0x92#8]
  | .res2E => [0xCB#8, 0x93#8]
  | .res2H => [0xCB#8, 0x94#8]
  | .res2L => [0xCB#8, 0x95#8]
  | .res2Mem => [0xCB#8, 0x96#8]
  | .res2A => [0xCB#8, 0x97#8]
  | .res3B => [0xCB#8, 0x98#8]
  | .res3C => [0xCB#8, 0x99#8]
  | .res3D => [0xCB#8, 0x9A#8]
  | .res3E => [0xCB#8, 0x9B#8]
  | .res3H => [0xCB#8, 0x9C#8]
  | .res3L => [0xCB#8, 0x9D#8]
  | .res3Mem => [0xCB#8, 0x9E#8]
  | .res3A => [0xCB#8, 0x9F#8]
  | .res4B => [0xCB#8, 0xA0#8]
  | .res4C => [0xCB#8, 0xA1#8]
  | .res4D => [0xCB#8, 0xA2#8]
  | .res4E => [0xCB#8, 0xA3#8]
  | .res4H => [0xCB#8, 0xA4#8]
  | .res4L => [0xCB#8, 0xA5#8]
  | .res4Mem => [0xCB#8, 0xA6#8]
  | .res4A => [0xCB#8, 0xA7#8]
  | .res5B => [0xCB#8, 0xA8#8]
  | .res5C => [0xCB#8, 0xA9#8]
  | .res5D => [0xCB#8, 0xAA#8]
  | .res5E => [0xCB#8, 0xAB#8]
  | .res5H => [0xCB#8, 0xAC#8]
  | .res5L => [0xCB#8, 0xAD#8]
  | .res5Mem => [0xCB#8, 0xAE#8]
  | .res5A => [0xCB#8, 0xAF#8]
  | .res6B => [0xCB#8, 0xB0#8]
  | .res6C => [0xCB#8, 0xB1#8]
  | .res6D => [0xCB#8, 0xB2#8]
  | .res6E => [0xCB#8, 0xB3#8]
  | .res6H => [0xCB#8, 0xB4#8]
  | .res6L => [0xCB#8, 0xB5#8]
  | .res6Mem => [0xCB#8, 0xB6#8]
  | .res6A => [0xCB#8, 0xB7#8]
  | .res7B => [0xCB#8, 0xB8#8]
  | .res7C => [0xCB#8, 0xB9#8]
  | .res7D => [0xCB#8, 0xBA#8]
  | .res7E => [0xCB#8, 0xBB#8]
  | .res7H => [0xCB#8, 0xBC#8]
  | .res7L => [0xCB#8, 0xBD#8]
  | .res7Mem => [0xCB#8, 0xBE#8]
  | .res7A => [0xCB#8, 0xBF#8]
  | .set0B => [0xCB#8, 0xC0#8]
  | .set0C => [0xCB#8, 0xC1#8]
  | .set0D => [0xCB#8, 0xC2#8]
  | .set0E => [0xCB#8, 0xC3#8]
  | .set0H => [0xCB#8, 0xC4#8]
  | .set0L => [0xCB#8, 0xC5#8]
  | .set0Mem => [0xCB#8, 0xC6#8]
  | .set0A => [0xCB#8, 0xC7#8]
  | .set1B => [0xCB#8, 0xC8#8]
  | .set1C => [0xCB#8, 0xC9#8]
  | .set1D => [0xCB#8, 0xCA#8]
  | .set1E => [0xCB#8, 0xCB#8]
  | .set1H => [0xCB#8, 0xCC#8]
  | .set1L => [0xCB#8, 0xCD#8]
  | .set1Mem => [0xCB#8, 0xCE#8]
  | .set1A => [0xCB#8, 0xCF#8]
  | .set2B => [0xCB#8, 0xD0#8]
  | .set2C => [0xCB#8, 0xD1#8]
  | .set2D => [0xCB#8, 0xD2#8]
  | .set2E => [0xCB#8, 0xD3#8]
  | .set2H => [0xCB#8, 0xD4#8]
  | .set2L => [0xCB#8, 0xD5#8]
  | .set2Mem => [0xCB#8, 0xD6#8]
  | .set2A => [0xCB#8, 0xD7#8]
  | .set3B => [0xCB#8, 0xD8#8]
  | .set3C => [0xCB#8, 0xD9#8]
  | .set3D => [0xCB#8, 0xDA#8]
  | .set3E => [0xCB#8, 0xDB#8]
  | .set3H => [0xCB#8, 0xDC#8]
  | .set3L => [0xCB#8, 0xDD#8]
  | .set3Mem => [0xCB#8, 0xDE#8]
  | .set3A => [0xCB#8, 0xDF#8]
  | .set4B => [0xCB#8, 0xE0#8]
  | .set4C => [0xCB#8, 0xE1#8]
  | .set4D => [0xCB#8, 0xE2#8]
  | .set4E => [0xCB#8, 0xE3#8]
  | .set4H => [0xCB#8, 0xE4#8]
  | .set4L => [0xCB#8, 0xE5#8]
  | .set4Mem => [0xCB#8, 0xE6#8]
  | .set4A => [0xCB#8, 0xE7#8]
  | .set5B => [0xCB#8, 0xE8#8]
  | .set5C => [0xCB#8, 0xE9#8]
  | .set5D => [0xCB#8, 0xEA#8]
  | .set5E => [0xCB#8, 0xEB#8]
  | .set5H => [0xCB#8, 0xEC#8]
  | .set5L => [0xCB#8, 0xED#8]
  | .set5Mem => [0xCB#8, 0xEE#8]
  | .set5A => [0xCB#8, 0xEF#8]
  | .set6B => [0xCB#8, 0xF0#8]
  | .set6C => [0xCB#8, 0xF1#8]
  | .set6D => [0xCB#8, 0xF2#8]
  | .set6E => [0xCB#8, 0xF3#8]
  | .set6H => [0xCB#8, 0xF4#8]
  | .set6L => [0xCB#8, 0xF5#8]
  | .set6Mem => [0xCB#8, 0xF6#8]
  | .set6A => [0xCB#8, 0xF7#8]
  | .set7B => [0xCB#8, 0xF8#8]
  | .set7C => [0xCB#8, 0xF9#8]
  | .set7D => [0xCB#8, 0xFA#8]
  | .set7E => [0xCB#8, 0xFB#8]
  | .set7H => [0xCB#8, 0xFC#8]
  | .set7L => [0xCB#8, 0xFD#8]
  | .set7Mem => [0xCB#8, 0xFE#8]
  | .set7A => [0xCB#8, 0xFF#8]

/-! ### The opcode table's words -/

/-- The bytes of a word numbered as spec/opcode_table.json numbers it, with zeros for the bits above
`nbits`, to the longest instruction (R90: 3 bytes). A secondary row is the 16-bit number
`byte0 * 256 + byte1` (R107), so its first byte, 0xCB, is in bits 15:8; every other word has its
first byte in bits 7:0. -/
def tableBytes (nbits w : Nat) : List Byte :=
  let w := w % 2 ^ nbits
  let byte (k : Nat) : Byte := BitVec.ofNat 8 (w / 256 ^ k)
  if nbits = 16 ∧ byte 1 = 0xCB#8 then [byte 1, byte 0, 0] else [byte 0, byte 1, byte 2]

/-- The instruction the decoder reads from a word of the opcode table. -/
def decodeTableWord (nbits w : Nat) : Option Instr :=
  match decode (tableBytes nbits w) with
  | .ok (i, _) => some i
  | .error _ => none

end Sys2Proof
end

