-- ==== Sys2Proof/Machine/Escape.lean ====
section
/-! DEFINITION. The meaning of the CB escape with its sub-opcode (30_encoding.md R92, R103;
40_step_engine.md R125). -/

namespace Sys2Proof.Machine

/-- R125: `(CB prefix)`: look the sub-opcode up in the secondary table, by the fields of R92, and run
its handler; a sub-opcode with none (R101: the rotate group with `yyy` 100 to 111) raises
`UnimplementedOpcode` with PC advanced by two (R231). PC is past both bytes. -/
def execCbPrefix (sub : Byte) (s : State) : Result :=
  let z := Operand.ofCode (field20 sub)
  let n := bitIndex (field53 sub)
  match (field76 sub).toNat with
  | 0 =>
    match (field53 sub).toNat with
    | 0 => rotateOperand .rlc z s
    | 1 => rotateOperand .rrc z s
    | 2 => rotateOperand .rl z s
    | 3 => rotateOperand .rr z s
    | _ => raise (.unimplementedOpcode .secondary sub) s
  | 1 => testBit n z s
  | 2 => resetBit n z s
  | _ => setBit n z s

end Sys2Proof.Machine
end

