-- ==== Sys2Proof/Machine/Load.lean ====
section
/-! DEFINITION. The meanings of NOP and the loads (41_loads.md R140 to R146, R148, R149). None writes F. A
meaning starts with PC past the instruction and its immediate. -/

namespace Sys2Proof.Machine

/-- R140: `NOP`. -/
def execNop (s : State) : Result := complete 4 s

/-- R141: `LD BC,d16`. -/
def execLdBcD16 (v : Word) (s : State) : Result := loadImmediate16 .bc v s

/-- R142: `LD B,d8`. -/
def execLdBD8 (v : Byte) (s : State) : Result := loadImmediate (.reg .b) v 8 s

/-- R142: `LD C,d8`. -/
def execLdCD8 (v : Byte) (s : State) : Result := loadImmediate (.reg .c) v 8 s

/-- R141: `LD DE,d16`. -/
def execLdDeD16 (v : Word) (s : State) : Result := loadImmediate16 .de v s

/-- R142: `LD D,d8`. -/
def execLdDD8 (v : Byte) (s : State) : Result := loadImmediate (.reg .d) v 8 s

/-- R142: `LD E,d8`. -/
def execLdED8 (v : Byte) (s : State) : Result := loadImmediate (.reg .e) v 8 s

/-- R141: `LD HL,d16`. -/
def execLdHlD16 (v : Word) (s : State) : Result := loadImmediate16 .hl v s

/-- R148: `LD (HL+),A`. -/
def execLdHlIncA (s : State) : Result := storeAStepHl 1 s

/-- R142: `LD H,d8`. -/
def execLdHD8 (v : Byte) (s : State) : Result := loadImmediate (.reg .h) v 8 s

/-- R142: `LD L,d8`. -/
def execLdLD8 (v : Byte) (s : State) : Result := loadImmediate (.reg .l) v 8 s

/-- R141: `LD SP,d16`. -/
def execLdSpD16 (v : Word) (s : State) : Result := loadImmediate16 .sp v s

/-- R149: `LD (HL-),A`. -/
def execLdHlDecA (s : State) : Result := storeAStepHl (-1) s

/-- R143: `LD (HL),d8`. -/
def execLdMemD8 (v : Byte) (s : State) : Result := loadImmediate .mem v 12 s

/-- R142: `LD A,d8`. -/
def execLdAD8 (v : Byte) (s : State) : Result := loadImmediate (.reg .a) v 8 s

/-- R144: `LD B,B`. -/
def execLdBB (s : State) : Result := copyOperand (.reg .b) (.reg .b) 4 s

/-- R144: `LD B,C`. -/
def execLdBC (s : State) : Result := copyOperand (.reg .b) (.reg .c) 4 s

/-- R144: `LD B,D`. -/
def execLdBD (s : State) : Result := copyOperand (.reg .b) (.reg .d) 4 s

/-- R144: `LD B,E`. -/
def execLdBE (s : State) : Result := copyOperand (.reg .b) (.reg .e) 4 s

/-- R144: `LD B,H`. -/
def execLdBH (s : State) : Result := copyOperand (.reg .b) (.reg .h) 4 s

/-- R144: `LD B,L`. -/
def execLdBL (s : State) : Result := copyOperand (.reg .b) (.reg .l) 4 s

/-- R145: `LD B,(HL)`. -/
def execLdBMem (s : State) : Result := copyOperand (.reg .b) .mem 8 s

/-- R144: `LD B,A`. -/
def execLdBA (s : State) : Result := copyOperand (.reg .b) (.reg .a) 4 s

/-- R144: `LD C,B`. -/
def execLdCB (s : State) : Result := copyOperand (.reg .c) (.reg .b) 4 s

/-- R144: `LD C,C`. -/
def execLdCC (s : State) : Result := copyOperand (.reg .c) (.reg .c) 4 s

/-- R144: `LD C,D`. -/
def execLdCD (s : State) : Result := copyOperand (.reg .c) (.reg .d) 4 s

/-- R144: `LD C,E`. -/
def execLdCE (s : State) : Result := copyOperand (.reg .c) (.reg .e) 4 s

/-- R144: `LD C,H`. -/
def execLdCH (s : State) : Result := copyOperand (.reg .c) (.reg .h) 4 s

/-- R144: `LD C,L`. -/
def execLdCL (s : State) : Result := copyOperand (.reg .c) (.reg .l) 4 s

/-- R145: `LD C,(HL)`. -/
def execLdCMem (s : State) : Result := copyOperand (.reg .c) .mem 8 s

/-- R144: `LD C,A`. -/
def execLdCA (s : State) : Result := copyOperand (.reg .c) (.reg .a) 4 s

/-- R144: `LD D,B`. -/
def execLdDB (s : State) : Result := copyOperand (.reg .d) (.reg .b) 4 s

/-- R144: `LD D,C`. -/
def execLdDC (s : State) : Result := copyOperand (.reg .d) (.reg .c) 4 s

/-- R144: `LD D,D`. -/
def execLdDD (s : State) : Result := copyOperand (.reg .d) (.reg .d) 4 s

/-- R144: `LD D,E`. -/
def execLdDE (s : State) : Result := copyOperand (.reg .d) (.reg .e) 4 s

/-- R144: `LD D,H`. -/
def execLdDH (s : State) : Result := copyOperand (.reg .d) (.reg .h) 4 s

/-- R144: `LD D,L`. -/
def execLdDL (s : State) : Result := copyOperand (.reg .d) (.reg .l) 4 s

/-- R145: `LD D,(HL)`. -/
def execLdDMem (s : State) : Result := copyOperand (.reg .d) .mem 8 s

/-- R144: `LD D,A`. -/
def execLdDA (s : State) : Result := copyOperand (.reg .d) (.reg .a) 4 s

/-- R144: `LD E,B`. -/
def execLdEB (s : State) : Result := copyOperand (.reg .e) (.reg .b) 4 s

/-- R144: `LD E,C`. -/
def execLdEC (s : State) : Result := copyOperand (.reg .e) (.reg .c) 4 s

/-- R144: `LD E,D`. -/
def execLdED (s : State) : Result := copyOperand (.reg .e) (.reg .d) 4 s

/-- R144: `LD E,E`. -/
def execLdEE (s : State) : Result := copyOperand (.reg .e) (.reg .e) 4 s

/-- R144: `LD E,H`. -/
def execLdEH (s : State) : Result := copyOperand (.reg .e) (.reg .h) 4 s

/-- R144: `LD E,L`. -/
def execLdEL (s : State) : Result := copyOperand (.reg .e) (.reg .l) 4 s

/-- R145: `LD E,(HL)`. -/
def execLdEMem (s : State) : Result := copyOperand (.reg .e) .mem 8 s

/-- R144: `LD E,A`. -/
def execLdEA (s : State) : Result := copyOperand (.reg .e) (.reg .a) 4 s

/-- R144: `LD H,B`. -/
def execLdHB (s : State) : Result := copyOperand (.reg .h) (.reg .b) 4 s

/-- R144: `LD H,C`. -/
def execLdHC (s : State) : Result := copyOperand (.reg .h) (.reg .c) 4 s

/-- R144: `LD H,D`. -/
def execLdHD (s : State) : Result := copyOperand (.reg .h) (.reg .d) 4 s

/-- R144: `LD H,E`. -/
def execLdHE (s : State) : Result := copyOperand (.reg .h) (.reg .e) 4 s

/-- R144: `LD H,H`. -/
def execLdHH (s : State) : Result := copyOperand (.reg .h) (.reg .h) 4 s

/-- R144: `LD H,L`. -/
def execLdHL (s : State) : Result := copyOperand (.reg .h) (.reg .l) 4 s

/-- R145: `LD H,(HL)`. -/
def execLdHMem (s : State) : Result := copyOperand (.reg .h) .mem 8 s

/-- R144: `LD H,A`. -/
def execLdHA (s : State) : Result := copyOperand (.reg .h) (.reg .a) 4 s

/-- R144: `LD L,B`. -/
def execLdLB (s : State) : Result := copyOperand (.reg .l) (.reg .b) 4 s

/-- R144: `LD L,C`. -/
def execLdLC (s : State) : Result := copyOperand (.reg .l) (.reg .c) 4 s

/-- R144: `LD L,D`. -/
def execLdLD (s : State) : Result := copyOperand (.reg .l) (.reg .d) 4 s

/-- R144: `LD L,E`. -/
def execLdLE (s : State) : Result := copyOperand (.reg .l) (.reg .e) 4 s

/-- R144: `LD L,H`. -/
def execLdLH (s : State) : Result := copyOperand (.reg .l) (.reg .h) 4 s

/-- R144: `LD L,L`. -/
def execLdLL (s : State) : Result := copyOperand (.reg .l) (.reg .l) 4 s

/-- R145: `LD L,(HL)`. -/
def execLdLMem (s : State) : Result := copyOperand (.reg .l) .mem 8 s

/-- R144: `LD L,A`. -/
def execLdLA (s : State) : Result := copyOperand (.reg .l) (.reg .a) 4 s

/-- R146: `LD (HL),B`. -/
def execLdMemB (s : State) : Result := copyOperand .mem (.reg .b) 8 s

/-- R146: `LD (HL),C`. -/
def execLdMemC (s : State) : Result := copyOperand .mem (.reg .c) 8 s

/-- R146: `LD (HL),D`. -/
def execLdMemD (s : State) : Result := copyOperand .mem (.reg .d) 8 s

/-- R146: `LD (HL),E`. -/
def execLdMemE (s : State) : Result := copyOperand .mem (.reg .e) 8 s

/-- R146: `LD (HL),H`. -/
def execLdMemH (s : State) : Result := copyOperand .mem (.reg .h) 8 s

/-- R146: `LD (HL),L`. -/
def execLdMemL (s : State) : Result := copyOperand .mem (.reg .l) 8 s

/-- R146: `LD (HL),A`. -/
def execLdMemA (s : State) : Result := copyOperand .mem (.reg .a) 8 s

/-- R144: `LD A,B`. -/
def execLdAB (s : State) : Result := copyOperand (.reg .a) (.reg .b) 4 s

/-- R144: `LD A,C`. -/
def execLdAC (s : State) : Result := copyOperand (.reg .a) (.reg .c) 4 s

/-- R144: `LD A,D`. -/
def execLdAD (s : State) : Result := copyOperand (.reg .a) (.reg .d) 4 s

/-- R144: `LD A,E`. -/
def execLdAE (s : State) : Result := copyOperand (.reg .a) (.reg .e) 4 s

/-- R144: `LD A,H`. -/
def execLdAH (s : State) : Result := copyOperand (.reg .a) (.reg .h) 4 s

/-- R144: `LD A,L`. -/
def execLdAL (s : State) : Result := copyOperand (.reg .a) (.reg .l) 4 s

/-- R145: `LD A,(HL)`. -/
def execLdAMem (s : State) : Result := copyOperand (.reg .a) .mem 8 s

/-- R144: `LD A,A`. -/
def execLdAA (s : State) : Result := copyOperand (.reg .a) (.reg .a) 4 s

end Sys2Proof.Machine
end

