-- ==== Sys2Proof/Machine/Logic.lean ====
section
/-! DEFINITION. The meanings of XOR and OR (43_logic.md R180 to R182): bitwise on 8 bits. -/

namespace Sys2Proof.Machine

/-- R180: `XOR B`. -/
def execXorB (s : State) : Result := logicA (· ^^^ ·) .b s

/-- R180: `XOR C`. -/
def execXorC (s : State) : Result := logicA (· ^^^ ·) .c s

/-- R180: `XOR D`. -/
def execXorD (s : State) : Result := logicA (· ^^^ ·) .d s

/-- R180: `XOR E`. -/
def execXorE (s : State) : Result := logicA (· ^^^ ·) .e s

/-- R180: `XOR H`. -/
def execXorH (s : State) : Result := logicA (· ^^^ ·) .h s

/-- R180: `XOR L`. -/
def execXorL (s : State) : Result := logicA (· ^^^ ·) .l s

/-- R180: `XOR A`. -/
def execXorA (s : State) : Result := logicA (· ^^^ ·) .a s

/-- R181: `OR B`. -/
def execOrB (s : State) : Result := logicA (· ||| ·) .b s

/-- R181: `OR C`. -/
def execOrC (s : State) : Result := logicA (· ||| ·) .c s

/-- R181: `OR D`. -/
def execOrD (s : State) : Result := logicA (· ||| ·) .d s

/-- R181: `OR E`. -/
def execOrE (s : State) : Result := logicA (· ||| ·) .e s

/-- R181: `OR H`. -/
def execOrH (s : State) : Result := logicA (· ||| ·) .h s

/-- R181: `OR L`. -/
def execOrL (s : State) : Result := logicA (· ||| ·) .l s

/-- R181: `OR A`. -/
def execOrA (s : State) : Result := logicA (· ||| ·) .a s

end Sys2Proof.Machine
end

