-- ==== Sys2Proof/Machine/Rotates.lean ====
section
/-! DEFINITION. The meanings of RLC, RRC, RL and RR (45_cb_rotate.md R210 to R218). PC is past both bytes. -/

namespace Sys2Proof.Machine

/-- R210: `RLC B`. -/
def execRlcB (s : State) : Result := rotateOperand .rlc (.reg .b) s

/-- R210: `RLC C`. -/
def execRlcC (s : State) : Result := rotateOperand .rlc (.reg .c) s

/-- R210: `RLC D`. -/
def execRlcD (s : State) : Result := rotateOperand .rlc (.reg .d) s

/-- R210: `RLC E`. -/
def execRlcE (s : State) : Result := rotateOperand .rlc (.reg .e) s

/-- R210: `RLC H`. -/
def execRlcH (s : State) : Result := rotateOperand .rlc (.reg .h) s

/-- R210: `RLC L`. -/
def execRlcL (s : State) : Result := rotateOperand .rlc (.reg .l) s

/-- R211: `RLC (HL)`. -/
def execRlcMem (s : State) : Result := rotateOperand .rlc .mem s

/-- R210: `RLC A`. -/
def execRlcA (s : State) : Result := rotateOperand .rlc (.reg .a) s

/-- R212: `RRC B`. -/
def execRrcB (s : State) : Result := rotateOperand .rrc (.reg .b) s

/-- R212: `RRC C`. -/
def execRrcC (s : State) : Result := rotateOperand .rrc (.reg .c) s

/-- R212: `RRC D`. -/
def execRrcD (s : State) : Result := rotateOperand .rrc (.reg .d) s

/-- R212: `RRC E`. -/
def execRrcE (s : State) : Result := rotateOperand .rrc (.reg .e) s

/-- R212: `RRC H`. -/
def execRrcH (s : State) : Result := rotateOperand .rrc (.reg .h) s

/-- R212: `RRC L`. -/
def execRrcL (s : State) : Result := rotateOperand .rrc (.reg .l) s

/-- R213: `RRC (HL)`. -/
def execRrcMem (s : State) : Result := rotateOperand .rrc .mem s

/-- R212: `RRC A`. -/
def execRrcA (s : State) : Result := rotateOperand .rrc (.reg .a) s

/-- R214: `RL B`. -/
def execRlB (s : State) : Result := rotateOperand .rl (.reg .b) s

/-- R214: `RL C`. -/
def execRlC (s : State) : Result := rotateOperand .rl (.reg .c) s

/-- R214: `RL D`. -/
def execRlD (s : State) : Result := rotateOperand .rl (.reg .d) s

/-- R214: `RL E`. -/
def execRlE (s : State) : Result := rotateOperand .rl (.reg .e) s

/-- R214: `RL H`. -/
def execRlH (s : State) : Result := rotateOperand .rl (.reg .h) s

/-- R214: `RL L`. -/
def execRlL (s : State) : Result := rotateOperand .rl (.reg .l) s

/-- R215: `RL (HL)`. -/
def execRlMem (s : State) : Result := rotateOperand .rl .mem s

/-- R214: `RL A`. -/
def execRlA (s : State) : Result := rotateOperand .rl (.reg .a) s

/-- R216: `RR B`. -/
def execRrB (s : State) : Result := rotateOperand .rr (.reg .b) s

/-- R216: `RR C`. -/
def execRrC (s : State) : Result := rotateOperand .rr (.reg .c) s

/-- R216: `RR D`. -/
def execRrD (s : State) : Result := rotateOperand .rr (.reg .d) s

/-- R216: `RR E`. -/
def execRrE (s : State) : Result := rotateOperand .rr (.reg .e) s

/-- R216: `RR H`. -/
def execRrH (s : State) : Result := rotateOperand .rr (.reg .h) s

/-- R216: `RR L`. -/
def execRrL (s : State) : Result := rotateOperand .rr (.reg .l) s

/-- R217: `RR (HL)`. -/
def execRrMem (s : State) : Result := rotateOperand .rr .mem s

/-- R216: `RR A`. -/
def execRrA (s : State) : Result := rotateOperand .rr (.reg .a) s

end Sys2Proof.Machine
end

