-- ==== Sys2Proof/Machine/Fetch.lean ====
section
/-! DEFINITION. Fetching an instruction (40_step_engine.md R120 to R125): the opcode, then what the
dispatch tables say it needs. -/

namespace Sys2Proof.Machine

/-- R120 to R125, in the order of R237: fetch the opcode, look it up, fetch the sub-opcode or the
immediate, then `k` on the instruction and the state with PC past it. Every fetch advances PC as it
completes; a fetch that fails, or an opcode with no handler, ends the step with what was reached
(R236). -/
def fetchInstr (s : State) (k : Instr → State → Result) : Result :=
  fetch8 s fun op s1 =>
    match primary op with
    | none => raise (.unimplementedOpcode .primary op) s1
    | some (.op i) => k i s1
    | some (.byte mk) => fetch8 s1 fun v s2 => k (mk v) s2
    | some (.word mk) => fetch16 s1 fun v s2 => k (mk v) s2

end Sys2Proof.Machine
end

