-- ==== Sys2Proof/Machine/Step.lean ====
section
/-! DEFINITION. One `Step()` (40_step_engine.md R132), and the placing of an instruction where the next
step fetches it. -/

namespace Sys2Proof.Machine

/-- R132: fetch one instruction and run it; a machine that is Faulted takes no step (R236). -/
def step (s : State) : Host.Outcome State Fault Refusal :=
  match s.status with
  | .running => fetchInstr s exec
  | .faulted e => .fault (.notRunning e s)

/-- `s`, Running, with the three bytes of an opcode-table word at PC, PC + 1 and PC + 2 (modulo 2^16),
readable there: what a loader outside the machine does (R263, log 14). -/
def State.withFetchWord (s : State) (nbits w : Nat) : State :=
  match tableBytes nbits w with
  | [x, y, z] =>
    { s with
      bus := ((s.bus.place s.pc x).place (s.pc + 1) y).place (s.pc + 2) z
      status := .running }
  | _ => s

end Sys2Proof.Machine
end

