-- ==== Sys2Proof/Machine/HostInterface.lean ====
section
/-! DEFINITION. What the host does, all of it between steps (60_exceptions.md R245, R246;
70_reset_and_hazards.md R260 to R263; 10_state.md R31 to R33, R38): construction, reading and writing
registers, pairs and flags, snapshot, dump and comparison. The step itself is `Machine.step`. -/

namespace Sys2Proof.Machine

/-! ### Construction -/

/-- R230, R234: the one error of construction; no engine exists after it. -/
inductive ConstructionError where
  | invalidBootImageSize
deriving DecidableEq, Repr

/-- R11: `INIT_REGS`, the register contents when the engine is constructed. -/
structure InitRegs where
  a : Byte
  f : Byte
  b : Byte
  c : Byte
  d : Byte
  e : Byte
  h : Byte
  l : Byte
  sp : Word
deriving DecidableEq, Repr

/-- R61, R11: the parameter `Bus` at construction: its policy, the bytes it stores, and the state of its
external addresses. -/
structure BusParams where
  policy : BusPolicy
  contents : List (Word × Byte)
  external : List Nat
deriving DecidableEq, Repr

/-- R260.1, R263: the bus built with a boot image, mapped; any image that is not 256 bytes is refused
(R234). -/
def constructBus (image : List Byte) (p : BusParams) : Except ConstructionError Bus :=
  if h : image.length = 256 then
    .ok
      { bootImage := ⟨image.toArray, by simpa using h⟩
        bootMapped := true
        mem := Memory.ofList p.contents
        external := p.external
        policy := p.policy }
  else .error .invalidBootImageSize

/-- R260.2, R260.3: the engine built around a bus: INIT_REGS, PC = 0x0000, `cycles` = 0, Running
(R47). -/
def constructEngine (init : InitRegs) (bus : Bus) : State where
  a := init.a
  f := init.f
  b := init.b
  c := init.c
  d := init.d
  e := init.e
  h := init.h
  l := init.l
  sp := init.sp
  pc := 0
  cycles := 0
  bus := bus
  status := .running

/-- R260: the bus, then the engine around it. -/
def construct (init : InitRegs) (image : List Byte) (p : BusParams) : Except ConstructionError State :=
  match constructBus image p with
  | .ok bus => .ok (constructEngine init bus)
  | .error e => .error e

/-! ### Register accessors -/

/-- R30: the eight 8-bit registers, F among them. -/
inductive HostReg8 where
  | a | f | b | c | d | e | h | l
deriving DecidableEq, Repr

/-- R31: the register pairs. -/
inductive Pair where
  | af | bc | de | hl
deriving DecidableEq, Repr

/-- R36: the four flags. -/
inductive Flag where
  | z | n | h | c
deriving DecidableEq, Repr

/-- R31: the high half of a pair, the first-named one (general knowledge, log 15). -/
def Pair.hi : Pair → HostReg8
  | .af => .a
  | .bc => .b
  | .de => .d
  | .hl => .h

/-- R31: the low half of a pair. -/
def Pair.lo : Pair → HostReg8
  | .af => .f
  | .bc => .c
  | .de => .e
  | .hl => .l

/-- R36: the bit of F a flag is in. -/
def Flag.position : Flag → Nat
  | .z => 7
  | .n => 6
  | .h => 5
  | .c => 4

/-- R245: read an 8-bit register. -/
def State.hostReg (s : State) : HostReg8 → Byte
  | .a => s.a
  | .f => s.f
  | .b => s.b
  | .c => s.c
  | .d => s.d
  | .e => s.e
  | .h => s.h
  | .l => s.l

/-- R33, R245: write an 8-bit register; only it changes. -/
def State.setHostReg (s : State) (r : HostReg8) (v : Byte) : State :=
  match r with
  | .a => { s with a := v }
  | .f => { s with f := v }
  | .b => { s with b := v }
  | .c => { s with c := v }
  | .d => { s with d := v }
  | .e => { s with e := v }
  | .h => { s with h := v }
  | .l => { s with l := v }

/-- R32: read a pair: `{high, low}` of its halves now. -/
def State.pair (s : State) (p : Pair) : Word := joinBytes (s.hostReg p.hi) (s.hostReg p.lo)

/-- R33: write a pair: `x[hi] <- v[15:8]; x[lo] <- v[7:0]`. -/
def State.setPair (s : State) (p : Pair) (v : Word) : State :=
  (s.setHostReg p.hi (highByte v)).setHostReg p.lo (lowByte v)

/-- R245: read a flag. -/
def State.flag (s : State) (x : Flag) : Bool := bitOf s.f x.position

/-- R38: F with one bit replaced. -/
def replaceBit (f : Byte) (i : Nat) (v : Bool) : Byte :=
  if v then f ||| (1#8 <<< i) else f &&& ~~~(1#8 <<< i)

/-- R38: set or clear a flag through its accessor: `F <- F with bit X replaced`. Not what an
instruction does (R37, 90_conflicts.md C3). -/
def State.setFlag (s : State) (x : Flag) (v : Bool) : State := s.setF (replaceBit s.f x.position v)

/-- R245: what the host may write between steps: any register, pair or flag. There is no write of
`cycles` (D23), of the bus, or of the status. -/
inductive HostWrite where
  | reg (r : HostReg8) (v : Byte)
  | pair (p : Pair) (v : Word)
  | sp (v : Word)
  | pc (v : Word)
  | flag (x : Flag) (v : Bool)
deriving DecidableEq, Repr

/-- R245: the host's write. It cannot fail (R38). -/
def State.hostWrite (s : State) : HostWrite → State
  | .reg r v => s.setHostReg r v
  | .pair p v => s.setPair p v
  | .sp v => s.setSp v
  | .pc v => s.setPc v
  | .flag x v => s.setFlag x v

/-! ### Snapshot, dump and comparison -/

/-- R81: `snapshot()`: a bus with identical contents that shares nothing with the original. A value
shares nothing with another value. -/
def Bus.snapshot (b : Bus) : Bus := b

/-- R61, R81: what `dump()` returns, compared only for equality: the bytes the bus holds, and what it
shows of its external addresses. DEDUCED (log 19): the mapping state is no content. -/
structure RawContents where
  bootImage : Vector Byte 256
  mem : Memory
  external : List Nat
deriving DecidableEq, Repr

/-- R61, R81: `dump()`. A bus without external addresses shows their state, which no access reaches, as
it is. -/
def Bus.dump (b : Bus) : RawContents where
  bootImage := b.bootImage
  mem := b.mem
  external := if b.policy.regions.any (fun r => r.access == .external) then Config.externalDump b else b.external

/-- R246: `copy_state()`: the registers and `cycles` (D24) copied by value, with the bus's
snapshot. -/
def State.copyState (s : State) : State := { s with bus := s.bus.snapshot }

/-- R245, R246: the host's comparison of two engines: every field of `CoreState` (R48), and the buses by
`dump()`. The status is not compared, so a Running and a Faulted machine can compare equal: the spec
does not say whether the comparison covers it (R48 says it is no register of the hardware, D24 counts
the fields by R48). DESIGN CHOICE (log 28), unsafe. -/
def State.sameAs (s t : State) : Bool :=
  s.a == t.a && s.f == t.f && s.b == t.b && s.c == t.c && s.d == t.d && s.e == t.e && s.h == t.h &&
    s.l == t.l && s.sp == t.sp && s.pc == t.pc && s.cycles == t.cycles && s.bus.dump == t.bus.dump

end Sys2Proof.Machine
end

