-- ==== Sys2Proof/Safety.lean ====
section
/-! DEFINITION. The terms claims use: the invariant of the machine, runs, safe runs, and what a failed
step leaves. -/

namespace Sys2Proof.Machine

/-- The invariant: memory is in its canonical form, so that it answers a read with the byte last
written (R76) and equal memories are equal data. -/
def Invariant (s : State) : Prop := s.bus.mem.wf

/-- R247: `n` steps, each without error, lead from `s` to `t`. The host decides how many. -/
def RunsTo : Nat → State → State → Prop
  | 0, s, t => t = s
  | n + 1, s, t => ∃ u, step s = .next u ∧ RunsTo n u t

/-- R247: the host may take `n` steps from `s` with no error. -/
def SafeFor (n : Nat) (s : State) : Prop := ∃ t, RunsTo n s t

/-- What becomes of a result when a change that nothing reads is made to every state in it. -/
def mapResult (g : State → State) : Result → Result
  | .next t => .next (g t)
  | .fault (.unimplementedOpcode t b left) => .fault (.unimplementedOpcode t b (g left))
  | .fault (.unmappedAccess a left) => .fault (.unmappedAccess a (g left))
  | .fault (.readOnlyViolation a left) => .fault (.readOnlyViolation a (g left))
  | .fault (.notRunning e left) => .fault (.notRunning e (g left))
  | .refused r => .refused r

/-- R236: what a failed step leaves of `s`: PC at `pc`, the status Faulted with the error, and
everything else, bus and `cycles` included, as it was. -/
def leftBy (s : State) (pc : Word) (e : FatalError) : State := (s.setPc pc).fail e

/-- The bytes `bs` are what reads of the addresses from `a` on return, the addresses wrapping modulo
2^16 (R42). -/
def BytesAt (b : Bus) : Word → List Byte → Prop
  | _, [] => True
  | a, x :: xs => b.read a = .ok x ∧ BytesAt b (a + 1) xs

/-- R37, R39: the instructions that write F: XOR, OR and the CB instructions, by their first byte. -/
def firstByteWritesF (i : Instr) : Bool :=
  match encode i with
  | op :: _ => op == 0xCB#8 || (0xA8#8 ≤ op && op ≤ 0xB7#8)
  | [] => false

/-- R101: the unimplemented primary values, as the rule lists them (162 values, 0x76 among them). -/
def unimplementedPrimaryValues : List Byte :=
    [0x02#8, 0x03, 0x04, 0x05, 0x07, 0x08, 0x09, 0x0A, 0x0B, 0x0C, 0x0D, 0x0F, 0x10, 0x12, 0x13, 0x14] ++
    [0x15#8, 0x17, 0x18, 0x19, 0x1A, 0x1B, 0x1C, 0x1D, 0x1F, 0x23, 0x24, 0x25, 0x27, 0x28, 0x29, 0x2A] ++
    [0x2B#8, 0x2C, 0x2D, 0x2F, 0x30, 0x33, 0x34, 0x35, 0x37, 0x38, 0x39, 0x3A, 0x3B, 0x3C, 0x3D, 0x3F] ++
    [0x76#8, 0x80, 0x81, 0x82, 0x83, 0x84, 0x85, 0x86, 0x87, 0x88, 0x89, 0x8A, 0x8B, 0x8C, 0x8D, 0x8E] ++
    [0x8F#8, 0x90, 0x91, 0x92, 0x93, 0x94, 0x95, 0x96, 0x97, 0x98, 0x99, 0x9A, 0x9B, 0x9C, 0x9D, 0x9E] ++
    [0x9F#8, 0xA0, 0xA1, 0xA2, 0xA3, 0xA4, 0xA5, 0xA6, 0xA7, 0xAE, 0xB6, 0xB8, 0xB9, 0xBA, 0xBB, 0xBC] ++
    [0xBD#8, 0xBE, 0xBF, 0xC0, 0xC1, 0xC2, 0xC3, 0xC4, 0xC5, 0xC6, 0xC7, 0xC8, 0xC9, 0xCA, 0xCC, 0xCD] ++
    [0xCE#8, 0xCF, 0xD0, 0xD1, 0xD2, 0xD3, 0xD4, 0xD5, 0xD6, 0xD7, 0xD8, 0xD9, 0xDA, 0xDB, 0xDC, 0xDD] ++
    [0xDE#8, 0xDF, 0xE0, 0xE1, 0xE2, 0xE3, 0xE4, 0xE5, 0xE6, 0xE7, 0xE8, 0xE9, 0xEA, 0xEB, 0xEC, 0xED] ++
    [0xEE#8, 0xEF, 0xF0, 0xF1, 0xF2, 0xF3, 0xF4, 0xF5, 0xF6, 0xF7, 0xF8, 0xF9, 0xFA, 0xFB, 0xFC, 0xFD] ++
    [0xFE#8, 0xFF]

end Sys2Proof.Machine
end

