-- ==== Sys2Proof/Certificates/Slice0/Obligations.lean ====
section
/-! DEFINITION. The statements for the provers. Each docstring names the rule of spec/ it formalises; where
a clause rests on a decision of the spec or on a choice of this model, it says so and names the entry
of spec/92_eei_decisions.md (D) or spec/93_implementation_defined.md (G), or the log entry. -/

open Sys2Proof Sys2Proof.Machine

/-! ### Registers, flags and the host -/

/-- R33. A write of an 8-bit register changes that register only, so the other half of its pair keeps
its value and the pair is updated at once; a write of a pair puts `v[15:8]` in its high half and
`v[7:0]` in its low half and changes nothing else. Which half is the high one is the model's (log 15);
the statement speaks of `p.hi` and `p.lo`. -/
def Obligations.RegisterAndPairWritesChangeOnlyTheirTarget : Prop :=
  ∀ s : State,
    (∀ (r q : HostReg8) (v : Byte), (s.setHostReg r v).hostReg q = if q = r then v else s.hostReg q) ∧
    (∀ (r : HostReg8) (v : Byte), (s.setHostReg r v).sp = s.sp ∧ (s.setHostReg r v).pc = s.pc ∧
      (s.setHostReg r v).cycles = s.cycles ∧ (s.setHostReg r v).bus = s.bus ∧
      (s.setHostReg r v).status = s.status) ∧
    (∀ (p : Pair) (v : Byte), (s.setHostReg p.hi v).pair p = joinBytes v (s.hostReg p.lo) ∧
      (s.setHostReg p.lo v).pair p = joinBytes (s.hostReg p.hi) v) ∧
    ∀ (p : Pair) (v : Word),
      ((s.setPair p v).hostReg p.hi).toNat = v.toNat / 256 ∧
      ((s.setPair p v).hostReg p.lo).toNat = v.toNat % 256 ∧
      (∀ q, q ≠ p.hi → q ≠ p.lo → (s.setPair p v).hostReg q = s.hostReg q) ∧
      (s.setPair p v).sp = s.sp ∧ (s.setPair p v).pc = s.pc ∧ (s.setPair p v).cycles = s.cycles ∧
      (s.setPair p v).bus = s.bus ∧ (s.setPair p v).status = s.status

/-- R32. A pair is a view of its halves: `high = value >> 8`, `low = value & 0xFF`, and reading a pair
after it was written gives the value written. -/
def Obligations.PairReadsItsHalves : Prop :=
  ∀ (s : State) (p : Pair),
    (s.hostReg p.hi).toNat = (s.pair p).toNat / 256 ∧ (s.hostReg p.lo).toNat = (s.pair p).toNat % 256 ∧
    ∀ v : Word, (s.setPair p v).pair p = v

/-- R38. Setting or clearing a flag through its accessor replaces that bit of F and no other bit of F or
other state. -/
def Obligations.FlagAccessorReplacesOneBit : Prop :=
  ∀ (s : State) (x : Flag) (v : Bool),
    (∀ i, i < 8 → (s.setFlag x v).f.getLsbD i = if i = x.position then v else s.f.getLsbD i) ∧
    s.setFlag x v = { s with f := (s.setFlag x v).f }

/-- R36. Z, N, H and C are bits 7, 6, 5 and 4 of F, for the engine and for the host; F[3:0] is in no
flag. -/
def Obligations.FlagsAreTheUpperFourBits : Prop :=
  (∀ f : Byte, flagZ f = f.getLsbD 7 ∧ flagN f = f.getLsbD 6 ∧ flagH f = f.getLsbD 5 ∧ flagC f = f.getLsbD 4) ∧
  (∀ s : State, s.flag .z = flagZ s.f ∧ s.flag .n = flagN s.f ∧ s.flag .h = flagH s.f ∧ s.flag .c = flagC s.f) ∧
  ∀ f g : Byte, f >>> 4 = g >>> 4 →
    flagZ f = flagZ g ∧ flagN f = flagN g ∧ flagH f = flagH g ∧ flagC f = flagC g

/-- R37. Every instruction that writes flags leaves F[3:0] zero; every other one leaves all 8 bits of F;
BIT leaves C its old value. The flag values themselves are in the statements of the instructions. -/
def Obligations.FlagWritersClearTheLowNibble : Prop :=
  (∀ (i : Instr) (s t : State), exec i s = .next t →
    if firstByteWritesF i then t.f &&& 0x0F#8 = 0 else t.f = s.f) ∧
  (∀ (z n h c : Bool), packFlags z n h c =
    BitVec.ofBool z ++ BitVec.ofBool n ++ BitVec.ofBool h ++ BitVec.ofBool c ++ 0#4) ∧
  ∀ (n : Fin 8) (z : Operand) (s t : State), exec (Instr.bitOn n z) s = .next t → flagC t.f = flagC s.f

/-- R245 with D23: a host write never changes `cycles`, the bus or the status, and cannot fail. -/
def Obligations.HostWritesKeepCyclesBusAndStatus : Prop :=
  ∀ (s : State) (w : HostWrite),
    (s.hostWrite w).cycles = s.cycles ∧ (s.hostWrite w).bus = s.bus ∧ (s.hostWrite w).status = s.status

/-! ### The bus -/

/-- R64, R67 with D8 and D9: a word read is two byte reads, low byte first, the high byte at the next
address modulo 2^16; the first that fails decides, with its own address. -/
def Obligations.WordReadIsLittleEndian : Prop :=
  ∀ (b : Bus) (a : Word),
    (∀ lo hi, b.read a = .ok lo → b.read (a + 1) = .ok hi → b.readWord a = .ok (hi, lo)) ∧
    (∀ e, b.read a = .error e → b.readWord a = .error e) ∧
    (∀ lo e, b.read a = .ok lo → b.read (a + 1) = .error e → b.readWord a = .error e)

/-- R263. The boot image is exactly 256 bytes; while it is mapped, byte i is read at address i and a
write there is a `ReadOnlyViolation`; it stays as it is, and mapped, until a write to the control
register with an unmapping value. -/
def Obligations.BootImageIsReadOnlyUntilUnmapped : Prop :=
  (∀ (image : List Byte) (p : BusParams) (b : Bus), constructBus image p = .ok b →
    image.length = 256 ∧ b.bootMapped = true ∧
    ∀ i (h : i < image.length), b.read (BitVec.ofNat 16 i) = .ok image[i]) ∧
  (∀ (b : Bus) (a : Word) (v : Byte), b.bootMapped = true → a.toNat < 256 →
    b.read a = .ok (b.bootImage.toList.getD a.toNat 0) ∧ b.write a v = .error (.readOnlyViolation a)) ∧
  ∀ (b b' : Bus) (a : Word) (v : Byte), b.write a v = .ok b' →
    b'.bootImage = b.bootImage ∧
    (b'.bootMapped = true ↔ b.bootMapped = true ∧ ¬(b.isBootCtrl a = true ∧ v ∈ b.policy.unmapValues))

/-- R72 with D14: a write of an unmapping value to the control register unmaps the boot image; after
that 0x0000 to 0x00FF is bus policy: a stored byte where a region of memory backs the address, what
the external unit answers where that has it, else an unmapped access. A control register the mapped
image covers is not reached (log 7). -/
def Obligations.UnmapWriteExposesThePolicy : Prop :=
  ∀ (b : Bus) (a : Word) (v : Byte), b.policy.bootCtrl = some a →
    (b.bootMapped = true → 256 ≤ a.toNat) → v ∈ b.policy.unmapValues →
    ∃ b', b.write a v = .ok b' ∧ b'.bootMapped = false ∧ b'.policy = b.policy ∧
      ∀ x : Word, x.toNat < 256 → x ≠ a →
        (b.access x = none → b'.read x = .error (.unmappedAccess x)) ∧
        (b.access x = some .readOnly ∨ b.access x = some .readWrite → b'.read x = .ok (b'.mem.read x.toNat)) ∧
        (b.access x = some .external → b'.read x =
          match Config.externalRead b' x with
          | some w => .ok w
          | none => .error (.unmappedAccess x))

/-- R73 with D14: the minimal reference bus backs the mapped boot image and the control register and
nothing else; after the unmap, 0x0000 to 0x00FF is unbacked too. -/
def Obligations.MinimalReferenceBusBacksNothingElse : Prop :=
  ∀ (image : Vector Byte 256) (ctrl : Word) (vs : List Byte), 256 ≤ ctrl.toNat →
    (∀ (a : Word) (v : Byte), 256 ≤ a.toNat → a ≠ ctrl →
      (Bus.minimal image ctrl vs).read a = .error (.unmappedAccess a) ∧
      (Bus.minimal image ctrl vs).write a v = .error (.unmappedAccess a)) ∧
    (∀ (i : Fin 256), (Bus.minimal image ctrl vs).read (BitVec.ofNat 16 i.val) = .ok image[i]) ∧
    (∃ v, (Bus.minimal image ctrl vs).read ctrl = .ok v) ∧
    ∀ v : Byte, ∃ b', (Bus.minimal image ctrl vs).write ctrl v = .ok b' ∧
      (v ∈ vs → ∀ a : Word, a.toNat < 256 →
        b'.read a = .error (.unmappedAccess a) ∧ ∀ w : Byte, b'.write a w = .error (.unmappedAccess a))

/-- R74 with D13: on FlatBus no access fails; a read gives the stored byte and a write stores it. -/
def Obligations.FlatBusNeverFails : Prop :=
  ∀ (m : Memory) (a : Word) (v : Byte),
    (Bus.flat m).read a = .ok (m.read a.toNat) ∧
    (Bus.flat m).write a v = .ok (Bus.flat (m.write a.toNat v))

/-- R61, R63, R70, R76: a completed write outside the control register to an address the bus stores itself
stores its byte there, and leaves what every other such address reads as it was (of the control
register's own read nothing is said, R72). At an address the external unit has, every access is that
unit's (log 4): a read answers what it answers, a write makes of its state what it makes, where the same
write once more would succeed and make nothing else of it (R70), and of the bytes the bus stores
nothing. Every access is idempotent, at every address: a completed write, done once more, completes and
changes nothing more. The premise is the invariant of memory. -/
def Obligations.WrittenByteReadsBackAndNoOtherChanges : Prop :=
  (∀ (b b' : Bus) (a : Word) (v : Byte), b.mem.wf → b.write a v = .ok b' → b.isBootCtrl a = false →
    (b.isExternal a = false → b'.read a = .ok v ∧ b'.external = b.external) ∧
    (b.isExternal a = false ∨ b'.mem = b.mem) ∧
    ∀ x : Word, x ≠ a → b.isBootCtrl x = false → (b.isExternal x = false ∨ b.inBootImage x = true) →
      b'.read x = b.read x) ∧
  (∀ (b b' : Bus) (a : Word) (v : Byte), b.mem.wf → b.write a v = .ok b' → b'.write a v = .ok b') ∧
  ∀ (b : Bus) (a : Word) (v : Byte), b.isExternal a = true → b.inBootImage a = false → b.isBootCtrl a = false →
    (b.read a =
      match Config.externalRead b a with
      | some w => .ok w
      | none => .error (.unmappedAccess a)) ∧
    let after : Bus := { b with external := Config.externalStored b a v }
    b.write a v =
      match Config.externalWriteError b a v with
      | none =>
        if Config.externalStored after a v = after.external ∧ Config.externalWriteError after a v = none
        then .ok after else .ok b
      | some .unmapped => .error (.unmappedAccess a)
      | some .readOnly => .error (.readOnlyViolation a)

/-! ### Construction -/

/-- R234. With a boot image that is not 256 bytes, construction raises `InvalidBootImageSize` and no
engine exists. -/
def Obligations.WrongBootImageSizeStopsConstruction : Prop :=
  ∀ (init : InitRegs) (image : List Byte) (p : BusParams), image.length ≠ 256 →
    constructBus image p = .error .invalidBootImageSize ∧
    construct init image p = .error .invalidBootImageSize

/-- R11, R47, R260 with D10: for every INIT_REGS, every 256-byte image and every parameter `Bus` (its
policy, the bytes it stores, the state of its external addresses), the constructed machine has those
registers, PC 0x0000, `cycles` 0, status Running, the image mapped, and that bus. -/
def Obligations.ConstructionGivesTheInitialMachine : Prop :=
  ∀ (init : InitRegs) (image : List Byte) (p : BusParams), image.length = 256 →
    ∃ m, construct init image p = .ok m ∧ m.pc = 0 ∧ m.cycles = 0 ∧ m.status = .running ∧
      m.a = init.a ∧ m.f = init.f ∧ m.b = init.b ∧ m.c = init.c ∧ m.d = init.d ∧ m.e = init.e ∧
      m.h = init.h ∧ m.l = init.l ∧ m.sp = init.sp ∧
      m.bus.bootImage.toList = image ∧ m.bus.bootMapped = true ∧ m.bus.policy = p.policy ∧
      m.bus.mem = Memory.ofList p.contents ∧ m.bus.external = p.external

/-- The reset state is the construction with the values of logs 1, 2 and 5, which are the model's
choice (zero registers, a zero boot image, the reset policy), and log 6 (nothing stored). -/
def Obligations.ResetIsTheConstructionWithTheChosenValues : Prop :=
  construct ⟨0, 0, 0, 0, 0, 0, 0, 0, 0⟩ (List.replicate 256 0) ⟨resetPolicy, [], []⟩ =
    .ok State.reset

/-! ### Decoding -/

/-- R90 to R107. Every well-formed instruction, with every immediate at every value, is what the
decoder reads from its bytes, whatever follows them. -/
def Obligations.DecodeReadsBackEveryEncoding : Prop :=
  ∀ (i : Instr) (rest : List Byte), WellFormed i → decode (encode i ++ rest) = .ok (i, rest)

/-- R90 to R107. Whatever the decoder accepts is well formed, and the bytes it consumed are exactly
that instruction's: no two encodings decode alike, and no bit of an encoding is ignored. -/
def Obligations.EveryDecodedInstructionIsItsBytes : Prop :=
  ∀ (bs : List Byte) (i : Instr) (rest : List Byte), decode bs = .ok (i, rest) →
    WellFormed i ∧ bs = encode i ++ rest

/-- R67, R90 to R92, R103 (the opcode values but 0x00, 0x21, 0xAF, 0xCB are general knowledge, G2, G3):
a word of each family decodes to its instruction. -/
def Obligations.SampleWordsDecode : Prop :=
  decode [0x00] = .ok (.nop, []) ∧
  decode [0x21, 0xFE, 0xEF] = .ok (.ldHlD16 0xEFFE, []) ∧
  decode [0x06, 0x5A] = .ok (.ldBD8 0x5A, []) ∧
  decode [0x36, 0x81] = .ok (.ldMemD8 0x81, []) ∧
  decode [0x78] = .ok (.ldAB, []) ∧
  decode [0x66] = .ok (.ldHMem, []) ∧
  decode [0x74] = .ok (.ldMemH, []) ∧
  decode [0x22] = .ok (.ldHlIncA, []) ∧
  decode [0x32] = .ok (.ldHlDecA, []) ∧
  decode [0x20, 0xFB] = .ok (.jrNzE8 0xFB, []) ∧
  decode [0xAF] = .ok (.xorA, []) ∧
  decode [0xB7] = .ok (.orA, []) ∧
  decode [0xCB, 0x7C] = .ok (.bit7H, []) ∧
  decode [0xCB, 0xBE] = .ok (.res7Mem, []) ∧
  decode [0xCB, 0xCB] = .ok (.set1E, []) ∧
  decode [0xCB, 0x13] = .ok (.rlE, []) ∧
  decode [0xCB, 0x37] = .ok (.cbPrefix 0x37, [])

/-- R104 with R91 (G2, D1): the first byte alone fixes the length: 3 for LD rr,d16; 2 for the d8, e8 and
CB forms; 1 for every other implemented opcode; and decoding consumes that many bytes. -/
def Obligations.LengthFollowsFromTheFirstByte : Prop :=
  ∀ (op : Byte) (rest : List Byte) (i : Instr) (after : List Byte),
    decode (op :: rest) = .ok (i, after) →
    rest.length + 1 = after.length +
      (if op ∈ [0x01#8, 0x11, 0x21, 0x31] then 3
       else if op ∈ [0x06#8, 0x0E, 0x16, 0x1E, 0x26, 0x2E, 0x36, 0x3E, 0x20, 0xCB] then 2 else 1)

/-! ### The step -/

/-- R120, R123 to R125: when the bytes at PC decode to an instruction, a step of a running machine is
that instruction's meaning on the state with PC past all its bytes (modulo 2^16). The cycle cost is
part of the meaning (R127). -/
def Obligations.StepRunsTheDecodedInstruction : Prop :=
  ∀ (s : State) (bs : List Byte) (i : Instr), s.status = .running → decode bs = .ok (i, []) →
    BytesAt s.bus s.pc bs → step s = exec i (s.setPc (s.pc + BitVec.ofNat 16 bs.length))

/-- R101, R102, R231 with D1, D3, D4, D5, D22: the 162 primary values without a handler, 0x76 among
them, and the sub-opcodes 0x20 to 0x3F after 0xCB, end the step with `UnimplementedOpcode`: PC past
the bytes fetched, nothing else of the machine changed but its status. -/
def Obligations.UnimplementedOpcodesAreFatal : Prop :=
  ∀ s : State, s.status = .running →
    (∀ op : Byte, s.bus.read s.pc = .ok op → op ∈ unimplementedPrimaryValues →
      step s = .fault (.unimplementedOpcode .primary op
        (leftBy s (s.pc + 1) (.unimplementedOpcode .primary op)))) ∧
    ∀ sub : Byte, s.bus.read s.pc = .ok 0xCB#8 → s.bus.read (s.pc + 1) = .ok sub →
      0x20#8 ≤ sub → sub ≤ 0x3F#8 →
      step s = .fault (.unimplementedOpcode .secondary sub
        (leftBy s (s.pc + 2) (.unimplementedOpcode .secondary sub)))

/-- R121, R122, R232, R236, R237 with D8, D9, D12: a fetch that fails ends the step with
`UnmappedAccess` of its own address, PC past the fetches that completed; a 16-bit immediate advances
PC only when both its bytes are read. -/
def Obligations.FailedFetchesLeavePcAtTheFetch : Prop :=
  ∀ s : State, s.status = .running →
    (∀ e, s.bus.read s.pc = .error e →
      step s = .fault (.unmappedAccess s.pc (leftBy s s.pc (.unmappedAccess s.pc)))) ∧
    (∀ op e, s.bus.read s.pc = .ok op → s.bus.read (s.pc + 1) = .error e →
      op ∈ [0x06#8, 0x0E, 0x16, 0x1E, 0x26, 0x2E, 0x36, 0x3E, 0x20, 0xCB, 0x01, 0x11, 0x21, 0x31] →
      step s = .fault (.unmappedAccess (s.pc + 1) (leftBy s (s.pc + 1) (.unmappedAccess (s.pc + 1))))) ∧
    ∀ op lo e, s.bus.read s.pc = .ok op → s.bus.read (s.pc + 1) = .ok lo →
      s.bus.read (s.pc + 2) = .error e → op ∈ [0x01#8, 0x11, 0x21, 0x31] →
      step s = .fault (.unmappedAccess (s.pc + 2) (leftBy s (s.pc + 1) (.unmappedAccess (s.pc + 2))))

/-- R236, R239 with D12: whatever a step of a running machine raises, it leaves every register but PC,
every flag, SP, `cycles` and the whole bus as they were; PC has moved by at most two bytes; the
status is Faulted with the error; and a step answers no refusal. -/
def Obligations.FailedStepsLeaveAllButPc : Prop :=
  ∀ s : State, s.status = .running →
    (∀ t byte left, step s = .fault (.unimplementedOpcode t byte left) →
      ∃ k, k ≤ 2 ∧ left = leftBy s (s.pc + BitVec.ofNat 16 k) (.unimplementedOpcode t byte)) ∧
    (∀ a left, step s = .fault (.unmappedAccess a left) →
      ∃ k, k ≤ 2 ∧ left = leftBy s (s.pc + BitVec.ofNat 16 k) (.unmappedAccess a)) ∧
    (∀ a left, step s = .fault (.readOnlyViolation a left) →
      ∃ k, k ≤ 2 ∧ left = leftBy s (s.pc + BitVec.ofNat 16 k) (.readOnlyViolation a)) ∧
    (∀ e left, step s ≠ .fault (.notRunning e left)) ∧
    ∀ r, step s ≠ .refused r

/-- R132, R236 with D16 (log 10): a machine that is Faulted takes no step and stays as it is. -/
def Obligations.FaultedMachineTakesNoStep : Prop :=
  ∀ (s : State) (e : FatalError), s.status = .faulted e →
    step s = .fault (.notRunning e s) ∧ ∀ n t, RunsTo (n + 1) s t → False

/-- R230, R236, R239: raising an error ends the handler with that error and the machine reached, its
status Faulted, and saves or vectors nothing. -/
def Obligations.RaisingLeavesTheMachineReached : Prop :=
  ∀ s : State,
    (∀ t byte, raise (.unimplementedOpcode t byte) s =
      .fault (.unimplementedOpcode t byte { s with status := .faulted (.unimplementedOpcode t byte) })) ∧
    (∀ a, raise (.unmappedAccess a) s =
      .fault (.unmappedAccess a { s with status := .faulted (.unmappedAccess a) })) ∧
    ∀ a, raise (.readOnlyViolation a) s =
      .fault (.readOnlyViolation a { s with status := .faulted (.readOnlyViolation a) })

/-- R40, R127, R267 with D6, D7 (log 17): every completed step makes `cycles` grow, by 4 to 16. -/
def Obligations.CompletedStepsGrowTheCycleCounter : Prop :=
  ∀ s t : State, step s = .next t → s.cycles + 4 ≤ t.cycles ∧ t.cycles ≤ s.cycles + 16

/-- R60, R76: memory keeps its canonical form through every step, so what it answers is always the byte
last written. -/
def Obligations.StepKeepsTheInvariant : Prop :=
  ∀ s t : State, Invariant s → step s = .next t → Invariant t

/-- The invariant holds at reset, and of every constructed machine. -/
def Obligations.ResetAndConstructionMeetTheInvariant : Prop :=
  Invariant State.reset ∧
  ∀ (init : InitRegs) (image : List Byte) (p : BusParams) (m : State), construct init image p = .ok m → Invariant m

/-- R45, R72, R263 with D13, D14: no step changes the parameters of the bus or the boot image, or maps
the image again once it is unmapped; the image is unmapped by a write to the control register only;
and a completed step leaves the machine Running. -/
def Obligations.StepsKeepTheBusParameters : Prop :=
  ∀ s t : State, step s = .next t →
    t.bus.policy = s.bus.policy ∧ t.bus.bootImage = s.bus.bootImage ∧
    (s.bus.bootMapped = false → t.bus.bootMapped = false) ∧
    (s.bus.bootMapped = true → t.bus.bootMapped = false → s.bus.policy.bootCtrl = some s.hl) ∧
    t.status = .running

/-- R130, R247: a run of `n + m` steps is a run of `n` steps followed by one of `m`, and a run from a
given machine ends in one machine only. A run keeps the invariant of memory (R60, R76), and `n` steps
add at least `4 * n` cycles (R267 with D6, log 17). -/
def Obligations.RunsCompose : Prop :=
  (∀ (n m : Nat) (s t : State), RunsTo (n + m) s t ↔ ∃ u, RunsTo n s u ∧ RunsTo m u t) ∧
  (∀ (n : Nat) (s t u : State), RunsTo n s t → RunsTo n s u → t = u) ∧
  ∀ (n : Nat) (s t : State), Invariant s → RunsTo n s t → Invariant t ∧ s.cycles + 4 * n ≤ t.cycles

/-! ### Rules over all instructions -/

/-- R124 to R126: every instruction has a meaning: none answers a refusal. -/
def Obligations.NoInstructionIsRefused : Prop :=
  ∀ (i : Instr) (s : State) (r : Refusal), exec i s ≠ .refused r

/-- R43. LD SP,d16 writes SP and nothing reads it: any other instruction, run with another SP, does the
same to everything else and leaves SP as it found it, the state a failure leaves included. -/
def Obligations.SpIsWrittenByLdSpAndReadByNothing : Prop :=
  (∀ (v : Word) (s : State), ∃ t, exec (.ldSpD16 v) s = .next t ∧ t.sp = v) ∧
  (∀ (v x : Word) (s : State), exec (.ldSpD16 v) (s.setSp x) = exec (.ldSpD16 v) s) ∧
  ∀ (i : Instr) (s : State) (x : Word), (∀ v, i ≠ .ldSpD16 v) →
    exec i (s.setSp x) = mapResult (fun t => t.setSp x) (exec i s)

/-- R40, R266 with D11: no instruction reads `cycles`: started with `k` more, it does the same and ends
with `k` more. -/
def Obligations.NoInstructionReadsTheCycleCounter : Prop :=
  ∀ (i : Instr) (s : State) (k : Nat),
    exec i (s.addCycles k) = mapResult (fun t => t.addCycles k) (exec i s)

/-- R172 with D1, D18: beyond the fetches, PC changes only by a taken JR NZ. -/
def Obligations.OnlyTakenJrNzChangesPc : Prop :=
  ∀ (i : Instr) (s t : State), exec i s = .next t →
    t.pc = s.pc ∨ ∃ e, i = .jrNzE8 e ∧ s.f.getLsbD 7 = false ∧ t.pc = s.pc + sext16 e

/-- R65. No instruction stores more than one byte: a completed instruction leaves the bus alone, or is
exactly one byte write at the address HL held. -/
def Obligations.AtMostOneByteIsStored : Prop :=
  ∀ (i : Instr) (s t : State), exec i s = .next t →
    t.bus = s.bus ∨ ∃ v, s.bus.write s.hl v = .ok t.bus

/-! ### What each instruction does, and that it completes -/

/-- R140. NOP is 0x00; it changes nothing but `cycles`, by 4; with its fetch, PC moves by 1 (0x0000
after 0xFFFF); its one exception is the opcode fetch's. -/
def Obligations.NopAdvancesPcAndCycles : Prop :=
  decode [0x00] = .ok (.nop, []) ∧
  (∀ s : State, exec .nop s = .next { s with cycles := s.cycles + 4 }) ∧
  (∀ s : State, s.status = .running → s.bus.read s.pc = .ok 0x00#8 →
    step s = .next { s with pc := s.pc + 1, cycles := s.cycles + 4 }) ∧
  ∀ (s : State) (e : FatalError), s.status = .running → s.bus.read s.pc = .error e → step s = raise e s

/-- R141 (cycles but LD HL's: D6; pairs: D26, G7; high half first: log 15): LD rr,d16 into BC, DE, HL
and SP. -/
def Obligations.LdPairImmediateLoadsBothHalves : Prop :=
  ∀ (v : Word) (s : State),
    exec (.ldBcD16 v) s = .next { s with b := highByte v, c := lowByte v, cycles := s.cycles + 12 } ∧
    exec (.ldDeD16 v) s = .next { s with d := highByte v, e := lowByte v, cycles := s.cycles + 12 } ∧
    exec (.ldHlD16 v) s = .next { s with h := highByte v, l := lowByte v, cycles := s.cycles + 12 } ∧
    exec (.ldSpD16 v) s = .next { s with sp := v, cycles := s.cycles + 12 }

/-- R142 (cycles: D6): LD r,d8 for r in B, C, D, E, H, L, A. -/
def Obligations.LdImmediateLoadsTheRegister : Prop :=
  ∀ (v : Byte) (s : State),
    exec (.ldBD8 v) s = .next { s with b := v, cycles := s.cycles + 8 } ∧
    exec (.ldCD8 v) s = .next { s with c := v, cycles := s.cycles + 8 } ∧
    exec (.ldDD8 v) s = .next { s with d := v, cycles := s.cycles + 8 } ∧
    exec (.ldED8 v) s = .next { s with e := v, cycles := s.cycles + 8 } ∧
    exec (.ldHD8 v) s = .next { s with h := v, cycles := s.cycles + 8 } ∧
    exec (.ldLD8 v) s = .next { s with l := v, cycles := s.cycles + 8 } ∧
    exec (.ldAD8 v) s = .next { s with a := v, cycles := s.cycles + 8 }

/-- R143 (cycles: D6): LD (HL),d8 stores at HL where the bus accepts the write, and raises the bus's
error where it does not. -/
def Obligations.LdMemImmediateStoresAtHl : Prop :=
  ∀ (v : Byte) (s : State),
    (s.bus.writeError s.hl v = none →
      exec (.ldMemD8 v) s = .next { s with bus := s.bus.stored s.hl v, cycles := s.cycles + 12 }) ∧
    ∀ e, s.bus.writeError s.hl v = some e → exec (.ldMemD8 v) s = raise e s

/-- R144 (cycles: D6; codes: G4): the 49 instructions LD r,r' (`Instr.ldRegReg dst src`, every `dst` and
`src` of B, C, D, E, H, L, A: ldBB to ldAA), the same register on both sides included. -/
def Obligations.LdRegisterCopies : Prop :=
  ∀ (dst src : Reg8) (s : State),
    exec (Instr.ldRegReg dst src) s = .next ((s.setReg dst (s.getReg src)).addCycles 4)

/-- R145 (cycles: D6): LD r,(HL) (`Instr.ldRegMem dst`: ldBMem, ldCMem, ldDMem, ldEMem, ldHMem, ldLMem,
ldAMem) reads at the old HL; where the bus fails the read, the bus's error. -/
def Obligations.LdFromHlLoadsTheRegister : Prop :=
  ∀ (dst : Reg8) (s : State),
    (s.bus.readError s.hl = none →
      exec (Instr.ldRegMem dst) s = .next ((s.setReg dst (s.bus.byteAt s.hl)).addCycles 8)) ∧
    ∀ e, s.bus.readError s.hl = some e → exec (Instr.ldRegMem dst) s = raise e s

/-- R146 (cycles: D6): LD (HL),r (`Instr.ldMemReg src`: ldMemB, ldMemC, ldMemD, ldMemE, ldMemH, ldMemL,
ldMemA) stores at HL; where the bus fails the write, the bus's error. -/
def Obligations.LdToHlStoresTheRegister : Prop :=
  ∀ (src : Reg8) (s : State),
    (s.bus.writeError s.hl (s.getReg src) = none →
      exec (Instr.ldMemReg src) s =
        .next { s with bus := s.bus.stored s.hl (s.getReg src), cycles := s.cycles + 8 }) ∧
    ∀ e, s.bus.writeError s.hl (s.getReg src) = some e → exec (Instr.ldMemReg src) s = raise e s

/-- R148, R149 (register A: D20, G9; wrap: D8; order: D12; cycles: D6): LD (HL+),A and LD (HL-),A store A
at the old HL, then HL moves by one modulo 2^16; a failed write leaves HL. -/
def Obligations.LdHlStepStoresAThenMovesHl : Prop :=
  ∀ s : State,
    (s.bus.writeError s.hl s.a = none →
      exec .ldHlIncA s = .next { s with
        bus := s.bus.stored s.hl s.a, h := highByte (s.hl + 1), l := lowByte (s.hl + 1),
        cycles := s.cycles + 8 } ∧
      exec .ldHlDecA s = .next { s with
        bus := s.bus.stored s.hl s.a, h := highByte (s.hl - 1), l := lowByte (s.hl - 1),
        cycles := s.cycles + 8 }) ∧
    ∀ e, s.bus.writeError s.hl s.a = some e → exec .ldHlIncA s = raise e s ∧ exec .ldHlDecA s = raise e s

/-- R170, R171 (cycles: D6; base: D18): JR NZ,e8 with PC past its two bytes: taken exactly when Z is
clear, to PC plus the signed displacement modulo 2^16, in 12 cycles; 8 when not taken. -/
def Obligations.JrNzBranchesWhenZIsClear : Prop :=
  ∀ (e : Byte) (s : State),
    (s.f.getLsbD 7 = false →
      exec (.jrNzE8 e) s =
        .next { s with pc := BitVec.ofInt 16 (s.pc.toNat + e.toInt), cycles := s.cycles + 12 }) ∧
    (s.f.getLsbD 7 = true → exec (.jrNzE8 e) s = .next { s with cycles := s.cycles + 8 })

/-- R180 (cycles but XOR A's: D6): XOR r (`Instr.xorReg r`: xorB, xorC, xorD, xorE, xorH, xorL, xorA):
A and F, with Z exactly when the result is 0; XOR A gives A = 0 and F = 0x80. -/
def Obligations.XorWritesAAndF : Prop :=
  (∀ (r : Reg8) (s : State),
    exec (Instr.xorReg r) s = .next { s with
      a := s.a ^^^ s.getReg r, f := if s.a ^^^ s.getReg r = 0 then 0x80 else 0x00,
      cycles := s.cycles + 4 }) ∧
  ∀ s : State, exec .xorA s = .next { s with a := 0, f := 0x80, cycles := s.cycles + 4 }

/-- R181 (cycles: D6): OR r (`Instr.orReg r`: orB, orC, orD, orE, orH, orL, orA): A and F, with Z
exactly when the result is 0; OR A keeps A. -/
def Obligations.OrWritesAAndF : Prop :=
  (∀ (r : Reg8) (s : State),
    exec (Instr.orReg r) s = .next { s with
      a := s.a ||| s.getReg r, f := if s.a ||| s.getReg r = 0 then 0x80 else 0x00,
      cycles := s.cycles + 4 }) ∧
  ∀ s : State, exec .orA s = .next { s with f := if s.a = 0 then 0x80 else 0x00, cycles := s.cycles + 4 }

/-- R190 (codes: D3, G3, log 16). BIT b,r (`Instr.bitOn n (.reg r)`: bit0B to bit7A, the 56 register
forms), 0xCB and 0x40 + 8b + z: Z is the tested bit itself, N = 0, H = 1, C kept, F[3:0] = 0; 8 cycles; no other
exception than the fetches'. -/
def Obligations.BitTestsARegister : Prop :=
  (∀ (n : Fin 8) (z : BitVec 3), z ≠ 6 →
    decode [0xCB, 0x40 + BitVec.ofNat 8 (8 * n.val + z.toNat)] = .ok (Instr.bitOn n (Operand.ofCode z), [])) ∧
  ∀ (n : Fin 8) (r : Reg8) (s : State),
    exec (Instr.bitOn n (.reg r)) s = .next { s with
      f := (if (s.getReg r).getLsbD n.val then 0x80 else 0x00) ||| 0x20 ||| (s.f &&& 0x10),
      cycles := s.cycles + 8 }

/-- R191: BIT b,(HL) (`Instr.bitOn n .mem`: bit0Mem to bit7Mem): F as BIT b,r, from the byte at HL, memory
not written, in `CYC_BIT_HL` cycles, which is 12 or 16 and left open (D7, log 9); where the bus fails
the read, the bus's error. -/
def Obligations.BitTestsTheByteAtHl : Prop :=
  (Config.cycBitHl = 12 ∨ Config.cycBitHl = 16) ∧
  ∀ (n : Fin 8) (s : State),
    (s.bus.readError s.hl = none →
      exec (Instr.bitOn n .mem) s = .next { s with
        f := (if (s.bus.byteAt s.hl).getLsbD n.val then 0x80 else 0x00) ||| 0x20 ||| (s.f &&& 0x10),
        cycles := s.cycles + Config.cycBitHl }) ∧
    ∀ e, s.bus.readError s.hl = some e → exec (Instr.bitOn n .mem) s = raise e s

/-- R192, R193 (flags: D19; cycles: D6): RES b,r and RES b,(HL) (`Instr.resOn n z`: res0B to res7A)
clear bit b and F; 8 cycles, 16 on (HL); where the bus fails the read or the write, the bus's error,
the read's first (R237). -/
def Obligations.ResClearsTheBitAndF : Prop :=
  (∀ (n : Fin 8) (r : Reg8) (s : State),
    exec (Instr.resOn n (.reg r)) s = .next
      { s.setReg r (s.getReg r &&& ~~~(1#8 <<< n.val)) with f := 0x00, cycles := s.cycles + 8 }) ∧
  ∀ (n : Fin 8) (s : State),
    let res := s.bus.byteAt s.hl &&& ~~~(1#8 <<< n.val)
    (s.bus.readError s.hl = none → s.bus.writeError s.hl res = none →
      exec (Instr.resOn n .mem) s = .next
        { s with bus := s.bus.stored s.hl res, f := 0x00, cycles := s.cycles + 16 }) ∧
    (∀ e, s.bus.readError s.hl = some e → exec (Instr.resOn n .mem) s = raise e s) ∧
    ∀ e, s.bus.readError s.hl = none → s.bus.writeError s.hl res = some e →
      exec (Instr.resOn n .mem) s = raise e s

/-- R194, R195 (flags: D19; cycles: D6): SET b,r and SET b,(HL) (`Instr.setOn n z`: set0B to set7A) set
bit b and clear F; 8 cycles, 16 on (HL); errors as RES. -/
def Obligations.SetSetsTheBitAndClearsF : Prop :=
  (∀ (n : Fin 8) (r : Reg8) (s : State),
    exec (Instr.setOn n (.reg r)) s = .next
      { s.setReg r (s.getReg r ||| (1#8 <<< n.val)) with f := 0x00, cycles := s.cycles + 8 }) ∧
  ∀ (n : Fin 8) (s : State),
    let res := s.bus.byteAt s.hl ||| (1#8 <<< n.val)
    (s.bus.readError s.hl = none → s.bus.writeError s.hl res = none →
      exec (Instr.setOn n .mem) s = .next
        { s with bus := s.bus.stored s.hl res, f := 0x00, cycles := s.cycles + 16 }) ∧
    (∀ e, s.bus.readError s.hl = some e → exec (Instr.setOn n .mem) s = raise e s) ∧
    ∀ e, s.bus.readError s.hl = none → s.bus.writeError s.hl res = some e →
      exec (Instr.setOn n .mem) s = raise e s

/-- R210, R212, R214, R216 (codes: D3; cycles: D6): RLC, RRC, RL and RR on a register (`Instr.rlcOn`,
`rrcOn`, `rlOn`, `rrOn` of `.reg r`: rlcB to rrA, the 28 register forms). The circular forms feed the
bit rotated out back in; the others feed in the old C. Z exactly when the result is 0; C is the bit
rotated out; 8 cycles. -/
def Obligations.RotatesMoveARegisterByOneBit : Prop :=
  ∀ (r : Reg8) (s : State),
    let v := s.getReg r
    let c := s.f.getLsbD 4
    let done (res : Byte) (out : Bool) : Result := .next
      { s.setReg r res with
        f := (if res = 0 then 0x80 else 0x00) ||| (if out then 0x10 else 0x00), cycles := s.cycles + 8 }
    exec (Instr.rlcOn (.reg r)) s = done (v.rotateLeft 1) (v.getLsbD 7) ∧
    exec (Instr.rrcOn (.reg r)) s = done (v.rotateRight 1) (v.getLsbD 0) ∧
    exec (Instr.rlOn (.reg r)) s = done ((v <<< 1) ||| (if c then 0x01 else 0x00)) (v.getLsbD 7) ∧
    exec (Instr.rrOn (.reg r)) s = done ((v >>> 1) ||| (if c then 0x80 else 0x00)) (v.getLsbD 0)

/-- R211, R213, R215, R217 (codes: D3; cycles: D6; order: D12): RLC, RRC, RL and RR on (HL) (rlcMem,
rrcMem, rlMem, rrMem): the byte at HL is read, rotated as in the register forms and written back; 16
cycles; where the bus fails the read or the write, the bus's error, the read's first (R237). -/
def Obligations.RotatesMoveTheByteAtHl : Prop :=
  ∀ s : State,
    let v := s.bus.byteAt s.hl
    let c := s.f.getLsbD 4
    let rotates (i : Instr) (res : Byte) (out : Bool) : Prop :=
      (s.bus.readError s.hl = none → s.bus.writeError s.hl res = none →
        exec i s = .next { s with
          bus := s.bus.stored s.hl res
          f := (if res = 0 then 0x80 else 0x00) ||| (if out then 0x10 else 0x00), cycles := s.cycles + 16 }) ∧
      (∀ e, s.bus.readError s.hl = some e → exec i s = raise e s) ∧
      ∀ e, s.bus.readError s.hl = none → s.bus.writeError s.hl res = some e → exec i s = raise e s
    rotates .rlcMem (v.rotateLeft 1) (v.getLsbD 7) ∧
    rotates .rrcMem (v.rotateRight 1) (v.getLsbD 0) ∧
    rotates .rlMem ((v <<< 1) ||| (if c then 0x01 else 0x00)) (v.getLsbD 7) ∧
    rotates .rrMem ((v >>> 1) ||| (if c then 0x80 else 0x00)) (v.getLsbD 0)

/-- R210 to R218 (codes: D3): the rotate to the other side undoes a rotate, for every register and both
ways round: RRC undoes RLC and RLC undoes RRC; RR undoes RL and RL undoes RR, the flag C included. -/
def Obligations.RotatesToTheOtherSideUndo : Prop :=
  ∀ (r : Reg8) (s : State),
    (∃ t u, exec (Instr.rlcOn (.reg r)) s = .next t ∧ exec (Instr.rrcOn (.reg r)) t = .next u ∧
      u.getReg r = s.getReg r) ∧
    (∃ t u, exec (Instr.rrcOn (.reg r)) s = .next t ∧ exec (Instr.rlcOn (.reg r)) t = .next u ∧
      u.getReg r = s.getReg r) ∧
    (∃ t u, exec (Instr.rlOn (.reg r)) s = .next t ∧ exec (Instr.rrOn (.reg r)) t = .next u ∧
      u.getReg r = s.getReg r ∧ flagC u.f = flagC s.f) ∧
    ∃ t u, exec (Instr.rrOn (.reg r)) s = .next t ∧ exec (Instr.rlOn (.reg r)) t = .next u ∧
      u.getReg r = s.getReg r ∧ flagC u.f = flagC s.f

/-- R103, R125 (D3): the CB escape with a sub-opcode that has a row is that row's instruction: what the
decoder reads from 0xCB and the sub-opcode, it runs. With a sub-opcode 0x20 to 0x3F it stops with
`UnimplementedOpcode` and changes nothing but the status. -/
def Obligations.CbEscapeRunsTheSecondaryTable : Prop :=
  ∀ (sub : Byte) (s : State),
    ((sub < 0x20#8 ∨ 0x40#8 ≤ sub) →
      ∃ i, decode [0xCB, sub] = .ok (i, []) ∧ i ≠ .cbPrefix sub ∧ exec (.cbPrefix sub) s = exec i s) ∧
    (0x20#8 ≤ sub → sub < 0x40#8 →
      exec (.cbPrefix sub) s = .fault (.unimplementedOpcode .secondary sub
        { s with status := .faulted (.unimplementedOpcode .secondary sub) }))

/-- R125, R128 (D3, D6): the CB escape completes for every sub-opcode that has a handler: with a register
operand always, in 8 cycles, with (HL) where the byte at HL can be read and any byte written there. PC and SP are
not changed. -/
def Obligations.CbEscapeCompletes : Prop :=
  ∀ (sub : Byte) (s : State), (sub < 0x20#8 ∨ 0x40#8 ≤ sub) →
    (sub &&& 0x07#8 ≠ 0x06#8 → ∃ t, exec (.cbPrefix sub) s = .next t ∧ t.cycles = s.cycles + 8 ∧
      t.pc = s.pc ∧ t.sp = s.sp ∧ t.bus = s.bus) ∧
    (sub &&& 0x07#8 = 0x06#8 → s.bus.readError s.hl = none → (∀ v, s.bus.writeError s.hl v = none) →
      ∃ t, exec (.cbPrefix sub) s = .next t ∧ s.cycles + 12 ≤ t.cycles ∧ t.cycles ≤ s.cycles + 16 ∧
        t.pc = s.pc ∧ t.sp = s.sp ∧ ∀ r, t.getReg r = s.getReg r)

/-! ### Frames -/

/-- R35, R66: LD r,d8, LD r,r' and LD r,(HL) change one register and `cycles`: no other register, no flag,
not SP, PC, the bus or any byte it gives. -/
def Obligations.RegisterLoadsChangeOneRegister : Prop :=
  ∀ (i : Instr) (r : Reg8) (s t : State),
    ((∃ v, i = Instr.ldRegImm r v) ∨ (∃ q, i = Instr.ldRegReg r q) ∨ i = Instr.ldRegMem r) →
    exec i s = .next t →
      (∀ q, q ≠ r → t.getReg q = s.getReg q) ∧ t.f = s.f ∧ t.sp = s.sp ∧ t.pc = s.pc ∧ t.bus = s.bus ∧
      t.status = s.status ∧ ∀ a, t.bus.read a = s.bus.read a

/-- R35, R39, R66: NOP, JR NZ, LD rr,d16, XOR r, OR r and BIT: what each leaves unchanged. NOP and JR NZ
change no register but PC, and no flag; LD rr,d16 no register outside its pair, and no flag; XOR and
OR no register but A; BIT no register at all. None changes a byte the bus gives. -/
def Obligations.OtherNonStoringFormsKeepTheRest : Prop :=
  ∀ (i : Instr) (s t : State), exec i s = .next t →
    ((i = .nop ∨ ∃ e, i = .jrNzE8 e) →
      (∀ q, t.getReg q = s.getReg q) ∧ t.f = s.f ∧ t.sp = s.sp ∧ t.bus = s.bus) ∧
    (∀ rr v, i = Instr.ldPairImm rr v →
      t.a = s.a ∧ t.f = s.f ∧ t.pc = s.pc ∧ t.bus = s.bus ∧
      (rr ≠ .bc → t.b = s.b ∧ t.c = s.c) ∧ (rr ≠ .de → t.d = s.d ∧ t.e = s.e) ∧
      (rr ≠ .hl → t.h = s.h ∧ t.l = s.l) ∧ (rr ≠ .sp → t.sp = s.sp)) ∧
    (∀ r, (i = Instr.xorReg r ∨ i = Instr.orReg r) →
      (∀ q, q ≠ .a → t.getReg q = s.getReg q) ∧ t.sp = s.sp ∧ t.pc = s.pc ∧ t.bus = s.bus) ∧
    (∀ n z, i = Instr.bitOn n z →
      (∀ q, t.getReg q = s.getReg q) ∧ t.sp = s.sp ∧ t.pc = s.pc ∧ t.bus = s.bus)

/-- R35, R66: RES, SET and the rotates on a register change that register, F and `cycles`, and no other
register, SP, PC, or byte of memory. -/
def Obligations.RegisterModifyFormsChangeOneRegisterAndF : Prop :=
  ∀ (i : Instr) (r : Reg8) (s t : State),
    ((∃ n, i = Instr.resOn n (.reg r) ∨ i = Instr.setOn n (.reg r)) ∨ i = Instr.rlcOn (.reg r) ∨
      i = Instr.rrcOn (.reg r) ∨ i = Instr.rlOn (.reg r) ∨ i = Instr.rrOn (.reg r)) →
    exec i s = .next t →
      (∀ q, q ≠ r → t.getReg q = s.getReg q) ∧ t.sp = s.sp ∧ t.pc = s.pc ∧ t.status = s.status ∧
      t.bus = s.bus ∧ ∀ a, t.bus.read a = s.bus.read a

/-- R35, R63, R66, R72: the storing forms (LD (HL),d8, LD (HL),r, LD (HL+),A, LD (HL-),A, and RES, SET and
the rotates on (HL)) store at the address HL held before: every byte at another address reads as
before, except the boot control register's own (a free value, log 8), what an external unit answers
(log 4) and, when the store itself unmapped the boot image, the bytes of the image. A store to an
external address changes no byte the bus stores itself, and no other store changes the state of the
external unit. No register changes but F for the CB forms and HL for LD (HL+),A and LD (HL-),A; the
loads keep F. The premise is the invariant of memory. -/
def Obligations.StoringFormsChangeOnlyTheByteAtHl : Prop :=
  ∀ (i : Instr) (s t : State), s.bus.mem.wf → exec i s = .next t →
    ((∃ v, i = .ldMemD8 v) ∨ (∃ r, i = Instr.ldMemReg r) ∨ i = .ldHlIncA ∨ i = .ldHlDecA ∨
      (∃ n, i = Instr.resOn n .mem ∨ i = Instr.setOn n .mem) ∨
      i = .rlcMem ∨ i = .rrcMem ∨ i = .rlMem ∨ i = .rrMem) →
    (∀ x : Word, x ≠ s.hl → s.bus.isBootCtrl x = false →
      (s.bus.isExternal x = false ∨ s.bus.inBootImage x = true) →
      (t.bus.bootMapped = s.bus.bootMapped ∨ s.bus.inBootImage x = false) →
      t.bus.read x = s.bus.read x) ∧
    (s.bus.isExternal s.hl = false ∨ t.bus.mem = s.bus.mem) ∧
    (s.bus.isExternal s.hl = true ∨ t.bus.external = s.bus.external) ∧
    (∀ q, (q = .h ∨ q = .l) ∧ (i = .ldHlIncA ∨ i = .ldHlDecA) ∨ t.getReg q = s.getReg q) ∧
    (firstByteWritesF i = true ∨ t.f = s.f) ∧ t.sp = s.sp ∧ t.pc = s.pc ∧ t.status = s.status

/-! ### The pairs -/

/-- R31 with G1 (log 15, the spec's general knowledge): AF is `{A, F}`, BC `{B, C}`, DE `{D, E}` and HL
`{H, L}`, the first-named half the high byte; and the HL of the (HL) operands, read and written, is
that pair. -/
def Obligations.PairsAreMadeOfTheirNamedHalves : Prop :=
  ∀ s : State,
    (s.pair .af).toNat = 256 * s.a.toNat + s.f.toNat ∧
    (s.pair .bc).toNat = 256 * s.b.toNat + s.c.toNat ∧
    (s.pair .de).toNat = 256 * s.d.toNat + s.e.toNat ∧
    (s.pair .hl).toNat = 256 * s.h.toNat + s.l.toNat ∧
    s.hl = s.pair .hl ∧ s.hl.toNat = 256 * s.h.toNat + s.l.toNat ∧
    ∀ v : Word, s.setHl v = s.setPair .hl v ∧ (s.setHl v).hl = v ∧
      (s.setHl v).h.toNat = v.toNat / 256 ∧ (s.setHl v).l.toNat = v.toNat % 256
end

