-- ==== Sys2Proof/Laws/Memory.lean ====
section
/-! SUPPORT. The laws of memory: every operation keeps the canonical form, a read after a write, and
equal reads are equal memories. -/

namespace Sys2Proof.Machine

@[simp] theorem Memory.read_nil (a : Nat) : Memory.read [] a = Memory.unlisted := rfl

@[simp] theorem Memory.read_cons (k : Nat) (v : Byte) (m : Memory) (a : Nat) :
    Memory.read ((k, v) :: m) a = if k = a then v else Memory.read m a := rfl

theorem Memory.wf_nil : Memory.wf [] := by simp [Memory.wf]

/-- The head of a canonical memory lies below the rest, is in range and is listed for a reason. -/
theorem Memory.wf_cons {k : Nat} {v : Byte} {m : Memory} :
    Memory.wf ((k, v) :: m) ↔
      (∀ x ∈ m, k < x.1) ∧ k < 65536 ∧ v ≠ Memory.unlisted ∧ Memory.wf m := by
  simp only [Memory.wf, List.pairwise_cons, List.forall_mem_cons]
  tauto

/-- No listed address is below the head, so an address not above it is not listed further on. -/
theorem Memory.read_of_lt {m : Memory} {a : Nat} (h : ∀ x ∈ m, a < x.1) :
    Memory.read m a = Memory.unlisted := by
  induction m with
  | nil => rfl
  | cons x m ih =>
    have hx : a < x.1 := h x (by simp)
    rw [Memory.read_cons, if_neg (by omega)]
    exact ih fun y hy => h y (by simp [hy])

/-- A write lists no address but those listed before and its own. -/
theorem Memory.mem_write {m : Memory} {a : Nat} {v : Byte} {x : Host.Cell}
    (h : x ∈ Memory.write m a v) : x ∈ m ∨ (x = (a, v) ∧ v ≠ Memory.unlisted) := by
  induction m with
  | nil =>
    simp only [Memory.write] at h
    split at h <;> simp_all
  | cons y m ih =>
    obtain ⟨k, w⟩ := y
    simp only [Memory.write] at h
    split at h
    · rcases List.mem_cons.1 h with rfl | h
      · simp
      · rcases ih h with h | h <;> simp [h]
    · split at h <;> split at h <;> simp_all <;> tauto

/-- Every write keeps the canonical form. -/
theorem Memory.write_wf {m : Memory} {a : Nat} {v : Byte} (h : m.wf) (ha : a < 65536) :
    (Memory.write m a v).wf := by
  induction m with
  | nil =>
    simp only [Memory.write]
    split
    · exact Memory.wf_nil
    · simp [Memory.wf, *]
  | cons y m ih =>
    obtain ⟨k, w⟩ := y
    obtain ⟨hk, hk', hw, hm⟩ := Memory.wf_cons.1 h
    simp only [Memory.write]
    split
    · refine Memory.wf_cons.2 ⟨fun x hx => ?_, hk', hw, ih hm⟩
      rcases Memory.mem_write hx with hx | ⟨rfl, -⟩
      · exact hk x hx
      · assumption
    · have above : ∀ x ∈ (if k = a then m else (k, w) :: m), a < x.1 := by
        intro x hx
        split at hx
        · have := hk x hx
          omega
        · rcases List.mem_cons.1 hx with rfl | hx
          · simp only
            omega
          · have := hk x hx
            omega
      have rest : Memory.wf (if k = a then m else (k, w) :: m) := by split <;> assumption
      split
      · exact rest
      · exact Memory.wf_cons.2 ⟨above, ha, ‹_›, rest⟩

/-- Read after write: the byte at the written address is the one written, and every other address
reads as before. -/
theorem Memory.read_write {m : Memory} (h : m.wf) (a : Nat) (v : Byte) (x : Nat) :
    (Memory.write m a v).read x = if x = a then v else m.read x := by
  induction m with
  | nil =>
    simp only [Memory.write]
    by_cases hx : x = a
    · subst hx
      split <;> simp_all
    · have hx' : ¬a = x := fun e => hx e.symm
      split <;> simp [hx']
  | cons y m ih =>
    obtain ⟨k, w⟩ := y
    obtain ⟨hk, -, -, hm⟩ := Memory.wf_cons.1 h
    have ih := ih hm
    simp only [Memory.write]
    split
    · simp only [Memory.read_cons, ih]
      split <;> split <;> first | rfl | omega
    · by_cases hka : k = a
      · subst hka
        have hr : Memory.read m k = Memory.unlisted := Memory.read_of_lt hk
        by_cases hx : k = x
        · subst hx
          split <;> simp_all
        · have hx' : ¬x = k := fun e => hx e.symm
          split <;> simp [hx]
      · have hr : Memory.read m a = Memory.unlisted :=
          Memory.read_of_lt fun x hx => by have := hk x hx; omega
        by_cases hx : x = a
        · subst hx
          split <;> simp_all
        · have hx' : ¬a = x := fun e => hx e.symm
          split <;> simp [hx']

/-- R70: writing a byte once more changes nothing more. -/
theorem Memory.write_write {m : Memory} (h : m.wf) (a : Nat) (v : Byte) :
    Memory.write (Memory.write m a v) a v = Memory.write m a v := by
  induction m with
  | nil =>
    by_cases hv : v = Memory.unlisted <;> simp [Memory.write, hv]
  | cons x m ih =>
    obtain ⟨k, w⟩ := x
    obtain ⟨hlt, hk, hw, hm⟩ := Memory.wf_cons.1 h
    by_cases hka : k < a
    · simp [Memory.write, hka, ih hm]
    · by_cases hv : v = Memory.unlisted
      · by_cases hkeq : k = a
        · subst hkeq
          cases m with
          | nil => simp [Memory.write, hv]
          | cons y m =>
            have hy : k < y.1 := hlt y (by simp)
            have h1 : ¬y.1 < k := by omega
            have h2 : ¬y.1 = k := by omega
            simp [Memory.write, hv, h1, h2]
        · simp [Memory.write, hka, hkeq, hv]
      · simp [Memory.write, hka, hv]

/-- Memory built from a list of bytes is in its canonical form. -/
theorem Memory.ofList_wf (contents : List (Word × Byte)) : (Memory.ofList contents).wf := by
  have h : ∀ (xs : List (Word × Byte)) (m : Memory), m.wf →
      (xs.foldl (fun m x => Memory.write m x.1.toNat x.2) m).wf := by
    intro xs
    induction xs with
    | nil => exact fun m hm => hm
    | cons x xs ih => exact fun m hm => ih _ (Memory.write_wf hm x.1.isLt)
  exact h contents [] Memory.wf_nil

end Sys2Proof.Machine
end

