-- ==== Sys2Proof/Laws/Bus.lean ====
section
/-! SUPPORT. The laws of the bus: what a read and a write answer, and what a write leaves alone. -/

namespace Sys2Proof.Machine

theorem Bus.read_eq_ok {b : Bus} {a : Word} {v : Byte} :
    b.read a = .ok v ↔ b.readError a = none ∧ b.byteAt a = v := by
  cases h : b.readError a <;> simp [Bus.read, h]

theorem Bus.read_eq_error {b : Bus} {a : Word} {e : FatalError} :
    b.read a = .error e ↔ b.readError a = some e := by
  cases h : b.readError a <;> simp [Bus.read, h]

theorem Bus.write_eq_ok {b b' : Bus} {a : Word} {v : Byte} :
    b.write a v = .ok b' ↔ b.writeError a v = none ∧ b' = b.stored a v := by
  cases h : b.writeError a v <;> simp [Bus.write, h, eq_comm]

theorem Bus.write_eq_error {b : Bus} {a : Word} {v : Byte} {e : FatalError} :
    b.write a v = .error e ↔ b.writeError a v = some e := by
  cases h : b.writeError a v <;> simp [Bus.write, h]

theorem Bus.read_of_ok {b : Bus} {a : Word} (h : b.readError a = none) :
    b.read a = .ok (b.byteAt a) := Bus.read_eq_ok.2 ⟨h, rfl⟩

theorem Bus.write_of_ok {b : Bus} {a : Word} {v : Byte} (h : b.writeError a v = none) :
    b.write a v = .ok (b.stored a v) := Bus.write_eq_ok.2 ⟨h, rfl⟩

/-- R62: a failed read is an unmapped access of its own address. -/
theorem Bus.readError_eq_some {b : Bus} {a : Word} {e : FatalError} (h : b.readError a = some e) :
    e = .unmappedAccess a := by
  unfold Bus.readError at h
  repeat' split at h
  all_goals simp_all

/-- R63: a failed write is an unmapped access or a read-only violation of its own address. -/
theorem Bus.writeError_eq_some {b : Bus} {a : Word} {v : Byte} {e : FatalError}
    (h : b.writeError a v = some e) : e = .unmappedAccess a ∨ e = .readOnlyViolation a := by
  unfold Bus.writeError at h
  repeat' split at h
  all_goals simp_all
  obtain ⟨r, -, rfl⟩ := h
  cases r <;> simp [writeRefusalError]

@[simp] theorem Bus.remapped_policy (b : Bus) (a : Word) (v : Byte) : (b.remapped a v).policy = b.policy := rfl

@[simp] theorem Bus.remapped_bootImage (b : Bus) (a : Word) (v : Byte) :
    (b.remapped a v).bootImage = b.bootImage := rfl

@[simp] theorem Bus.remapped_mem (b : Bus) (a : Word) (v : Byte) : (b.remapped a v).mem = b.mem := rfl

@[simp] theorem Bus.remapped_external (b : Bus) (a : Word) (v : Byte) :
    (b.remapped a v).external = b.external := rfl

@[simp] theorem Bus.remapped_bootMapped (b : Bus) (a : Word) (v : Byte) :
    (b.remapped a v).bootMapped = (b.bootMapped && !(b.isBootCtrl a && b.unmaps v)) := rfl

/-- Away from the control register a write leaves the mapping alone. -/
theorem Bus.remapped_of_not_ctrl {b : Bus} {a : Word} (h : b.isBootCtrl a = false) (v : Byte) :
    b.remapped a v = b := by
  simp [Bus.remapped, h]

@[simp] theorem Bus.stored_policy (b : Bus) (a : Word) (v : Byte) : (b.stored a v).policy = b.policy := rfl

@[simp] theorem Bus.stored_bootImage (b : Bus) (a : Word) (v : Byte) :
    (b.stored a v).bootImage = b.bootImage := rfl

@[simp] theorem Bus.stored_mem (b : Bus) (a : Word) (v : Byte) :
    (b.stored a v).mem = if b.isExternal a then b.mem else b.mem.write a.toNat v := rfl

@[simp] theorem Bus.stored_external (b : Bus) (a : Word) (v : Byte) :
    (b.stored a v).external = if b.isExternal a then b.externalAfter a v else b.external := rfl

@[simp] theorem Bus.stored_bootMapped (b : Bus) (a : Word) (v : Byte) :
    (b.stored a v).bootMapped = (b.bootMapped && !(b.isBootCtrl a && b.unmaps v)) := rfl

@[simp] theorem Bus.stored_access (b : Bus) (a : Word) (v : Byte) (x : Word) :
    (b.stored a v).access x = b.access x := rfl

@[simp] theorem Bus.stored_isExternal (b : Bus) (a : Word) (v : Byte) (x : Word) :
    (b.stored a v).isExternal x = b.isExternal x := rfl

/-- A store keeps the canonical form of memory. -/
theorem Bus.stored_wf {b : Bus} (h : b.mem.wf) (a : Word) (v : Byte) : (b.stored a v).mem.wf := by
  rw [Bus.stored_mem]
  split
  · exact h
  · exact Memory.write_wf h a.isLt

/-- R63: where a store leaves the mapping of an address alone, and no external unit and no control
register answers there, the address reads as before, unless it is the one stored to. -/
theorem Bus.read_stored_of_ne {b : Bus} (hwf : b.mem.wf) {a x : Word} (v : Byte) (hx : x ≠ a)
    (hc : b.isBootCtrl x = false) (he : b.isExternal x = false ∨ b.inBootImage x = true)
    (hb : (b.stored a v).bootMapped = b.bootMapped ∨ b.inBootImage x = false) :
    (b.stored a v).read x = b.read x := by
  have hi : (b.stored a v).inBootImage x = b.inBootImage x := by
    unfold Bus.inBootImage at *
    rcases hb with hb | hb
    · rw [hb]
    · rw [hb]
      cases hm : b.bootMapped <;> simp_all
  have hc' : (b.stored a v).isBootCtrl x = b.isBootCtrl x := by
    unfold Bus.isBootCtrl
    rw [hi, Bus.stored_policy]
  cases hin : b.inBootImage x with
  | true => simp [Bus.read, Bus.readError, Bus.byteAt, hi, hin]
  | false =>
    have he : b.isExternal x = false := by simpa [hin] using he
    have hne : x.toNat ≠ a.toNat := fun h => hx (BitVec.eq_of_toNat_eq h)
    have hm : (b.stored a v).mem.read x.toNat = b.mem.read x.toNat := by
      rw [Bus.stored_mem]
      split
      · rfl
      · rw [Memory.read_write hwf, if_neg hne]
    have hacc : b.access x ≠ some .external := by simpa [Bus.isExternal] using he
    unfold Bus.read Bus.readError Bus.byteAt
    rw [hi, hc', hc, hin, Bus.stored_isExternal, he, hm, Bus.stored_access]
    cases h : b.access x with
    | none => rfl
    | some k => cases k <;> simp_all

end Sys2Proof.Machine
end

