-- ==== Sys2Proof/Laws/State.lean ====
section
/-! SUPPORT. What each field of the state reads after each named update: one lemma per field per update,
so that no later proof unfolds a record update. -/

namespace Sys2Proof.Machine

variable (s : State)

/-! ### setF -/

@[simp] theorem State.setF_a (v : Byte) : (s.setF v).a = s.a := rfl
@[simp] theorem State.setF_f (v : Byte) : (s.setF v).f = v := rfl
@[simp] theorem State.setF_b (v : Byte) : (s.setF v).b = s.b := rfl
@[simp] theorem State.setF_c (v : Byte) : (s.setF v).c = s.c := rfl
@[simp] theorem State.setF_d (v : Byte) : (s.setF v).d = s.d := rfl
@[simp] theorem State.setF_e (v : Byte) : (s.setF v).e = s.e := rfl
@[simp] theorem State.setF_h (v : Byte) : (s.setF v).h = s.h := rfl
@[simp] theorem State.setF_l (v : Byte) : (s.setF v).l = s.l := rfl
@[simp] theorem State.setF_sp (v : Byte) : (s.setF v).sp = s.sp := rfl
@[simp] theorem State.setF_pc (v : Byte) : (s.setF v).pc = s.pc := rfl
@[simp] theorem State.setF_cycles (v : Byte) : (s.setF v).cycles = s.cycles := rfl
@[simp] theorem State.setF_bus (v : Byte) : (s.setF v).bus = s.bus := rfl
@[simp] theorem State.setF_status (v : Byte) : (s.setF v).status = s.status := rfl
@[simp] theorem State.getReg_setF (v : Byte) (r : Reg8) : (s.setF v).getReg r = s.getReg r := by cases r <;> rfl
@[simp] theorem State.hl_setF (v : Byte) : (s.setF v).hl = s.hl := rfl

/-! ### setPc -/

@[simp] theorem State.setPc_a (v : Word) : (s.setPc v).a = s.a := rfl
@[simp] theorem State.setPc_f (v : Word) : (s.setPc v).f = s.f := rfl
@[simp] theorem State.setPc_b (v : Word) : (s.setPc v).b = s.b := rfl
@[simp] theorem State.setPc_c (v : Word) : (s.setPc v).c = s.c := rfl
@[simp] theorem State.setPc_d (v : Word) : (s.setPc v).d = s.d := rfl
@[simp] theorem State.setPc_e (v : Word) : (s.setPc v).e = s.e := rfl
@[simp] theorem State.setPc_h (v : Word) : (s.setPc v).h = s.h := rfl
@[simp] theorem State.setPc_l (v : Word) : (s.setPc v).l = s.l := rfl
@[simp] theorem State.setPc_sp (v : Word) : (s.setPc v).sp = s.sp := rfl
@[simp] theorem State.setPc_pc (v : Word) : (s.setPc v).pc = v := rfl
@[simp] theorem State.setPc_cycles (v : Word) : (s.setPc v).cycles = s.cycles := rfl
@[simp] theorem State.setPc_bus (v : Word) : (s.setPc v).bus = s.bus := rfl
@[simp] theorem State.setPc_status (v : Word) : (s.setPc v).status = s.status := rfl
@[simp] theorem State.getReg_setPc (v : Word) (r : Reg8) : (s.setPc v).getReg r = s.getReg r := by cases r <;> rfl
@[simp] theorem State.hl_setPc (v : Word) : (s.setPc v).hl = s.hl := rfl

/-! ### setSp -/

@[simp] theorem State.setSp_a (v : Word) : (s.setSp v).a = s.a := rfl
@[simp] theorem State.setSp_f (v : Word) : (s.setSp v).f = s.f := rfl
@[simp] theorem State.setSp_b (v : Word) : (s.setSp v).b = s.b := rfl
@[simp] theorem State.setSp_c (v : Word) : (s.setSp v).c = s.c := rfl
@[simp] theorem State.setSp_d (v : Word) : (s.setSp v).d = s.d := rfl
@[simp] theorem State.setSp_e (v : Word) : (s.setSp v).e = s.e := rfl
@[simp] theorem State.setSp_h (v : Word) : (s.setSp v).h = s.h := rfl
@[simp] theorem State.setSp_l (v : Word) : (s.setSp v).l = s.l := rfl
@[simp] theorem State.setSp_sp (v : Word) : (s.setSp v).sp = v := rfl
@[simp] theorem State.setSp_pc (v : Word) : (s.setSp v).pc = s.pc := rfl
@[simp] theorem State.setSp_cycles (v : Word) : (s.setSp v).cycles = s.cycles := rfl
@[simp] theorem State.setSp_bus (v : Word) : (s.setSp v).bus = s.bus := rfl
@[simp] theorem State.setSp_status (v : Word) : (s.setSp v).status = s.status := rfl
@[simp] theorem State.getReg_setSp (v : Word) (r : Reg8) : (s.setSp v).getReg r = s.getReg r := by cases r <;> rfl
@[simp] theorem State.hl_setSp (v : Word) : (s.setSp v).hl = s.hl := rfl

/-! ### setBus -/

@[simp] theorem State.setBus_a (v : Bus) : (s.setBus v).a = s.a := rfl
@[simp] theorem State.setBus_f (v : Bus) : (s.setBus v).f = s.f := rfl
@[simp] theorem State.setBus_b (v : Bus) : (s.setBus v).b = s.b := rfl
@[simp] theorem State.setBus_c (v : Bus) : (s.setBus v).c = s.c := rfl
@[simp] theorem State.setBus_d (v : Bus) : (s.setBus v).d = s.d := rfl
@[simp] theorem State.setBus_e (v : Bus) : (s.setBus v).e = s.e := rfl
@[simp] theorem State.setBus_h (v : Bus) : (s.setBus v).h = s.h := rfl
@[simp] theorem State.setBus_l (v : Bus) : (s.setBus v).l = s.l := rfl
@[simp] theorem State.setBus_sp (v : Bus) : (s.setBus v).sp = s.sp := rfl
@[simp] theorem State.setBus_pc (v : Bus) : (s.setBus v).pc = s.pc := rfl
@[simp] theorem State.setBus_cycles (v : Bus) : (s.setBus v).cycles = s.cycles := rfl
@[simp] theorem State.setBus_bus (v : Bus) : (s.setBus v).bus = v := rfl
@[simp] theorem State.setBus_status (v : Bus) : (s.setBus v).status = s.status := rfl
@[simp] theorem State.getReg_setBus (v : Bus) (r : Reg8) : (s.setBus v).getReg r = s.getReg r := by cases r <;> rfl
@[simp] theorem State.hl_setBus (v : Bus) : (s.setBus v).hl = s.hl := rfl

/-! ### addCycles -/

@[simp] theorem State.addCycles_a (v : Nat) : (s.addCycles v).a = s.a := rfl
@[simp] theorem State.addCycles_f (v : Nat) : (s.addCycles v).f = s.f := rfl
@[simp] theorem State.addCycles_b (v : Nat) : (s.addCycles v).b = s.b := rfl
@[simp] theorem State.addCycles_c (v : Nat) : (s.addCycles v).c = s.c := rfl
@[simp] theorem State.addCycles_d (v : Nat) : (s.addCycles v).d = s.d := rfl
@[simp] theorem State.addCycles_e (v : Nat) : (s.addCycles v).e = s.e := rfl
@[simp] theorem State.addCycles_h (v : Nat) : (s.addCycles v).h = s.h := rfl
@[simp] theorem State.addCycles_l (v : Nat) : (s.addCycles v).l = s.l := rfl
@[simp] theorem State.addCycles_sp (v : Nat) : (s.addCycles v).sp = s.sp := rfl
@[simp] theorem State.addCycles_pc (v : Nat) : (s.addCycles v).pc = s.pc := rfl
@[simp] theorem State.addCycles_cycles (v : Nat) : (s.addCycles v).cycles = s.cycles + v := rfl
@[simp] theorem State.addCycles_bus (v : Nat) : (s.addCycles v).bus = s.bus := rfl
@[simp] theorem State.addCycles_status (v : Nat) : (s.addCycles v).status = s.status := rfl
@[simp] theorem State.getReg_addCycles (v : Nat) (r : Reg8) : (s.addCycles v).getReg r = s.getReg r := by cases r <;> rfl
@[simp] theorem State.hl_addCycles (v : Nat) : (s.addCycles v).hl = s.hl := rfl

/-! ### fail -/

@[simp] theorem State.fail_a (v : FatalError) : (s.fail v).a = s.a := rfl
@[simp] theorem State.fail_f (v : FatalError) : (s.fail v).f = s.f := rfl
@[simp] theorem State.fail_b (v : FatalError) : (s.fail v).b = s.b := rfl
@[simp] theorem State.fail_c (v : FatalError) : (s.fail v).c = s.c := rfl
@[simp] theorem State.fail_d (v : FatalError) : (s.fail v).d = s.d := rfl
@[simp] theorem State.fail_e (v : FatalError) : (s.fail v).e = s.e := rfl
@[simp] theorem State.fail_h (v : FatalError) : (s.fail v).h = s.h := rfl
@[simp] theorem State.fail_l (v : FatalError) : (s.fail v).l = s.l := rfl
@[simp] theorem State.fail_sp (v : FatalError) : (s.fail v).sp = s.sp := rfl
@[simp] theorem State.fail_pc (v : FatalError) : (s.fail v).pc = s.pc := rfl
@[simp] theorem State.fail_cycles (v : FatalError) : (s.fail v).cycles = s.cycles := rfl
@[simp] theorem State.fail_bus (v : FatalError) : (s.fail v).bus = s.bus := rfl
@[simp] theorem State.fail_status (v : FatalError) : (s.fail v).status = .faulted v := rfl
@[simp] theorem State.getReg_fail (v : FatalError) (r : Reg8) : (s.fail v).getReg r = s.getReg r := by cases r <;> rfl
@[simp] theorem State.hl_fail (v : FatalError) : (s.fail v).hl = s.hl := rfl

/-! ### setReg -/

@[simp] theorem State.setReg_f (r : Reg8) (v : Byte) : (s.setReg r v).f = s.f := by cases r <;> rfl
@[simp] theorem State.setReg_sp (r : Reg8) (v : Byte) : (s.setReg r v).sp = s.sp := by cases r <;> rfl
@[simp] theorem State.setReg_pc (r : Reg8) (v : Byte) : (s.setReg r v).pc = s.pc := by cases r <;> rfl
@[simp] theorem State.setReg_cycles (r : Reg8) (v : Byte) : (s.setReg r v).cycles = s.cycles := by cases r <;> rfl
@[simp] theorem State.setReg_bus (r : Reg8) (v : Byte) : (s.setReg r v).bus = s.bus := by cases r <;> rfl
@[simp] theorem State.setReg_status (r : Reg8) (v : Byte) : (s.setReg r v).status = s.status := by cases r <;> rfl
@[simp] theorem State.setReg_a (r : Reg8) (v : Byte) : (s.setReg r v).a = if r = .a then v else s.a := by cases r <;> rfl
@[simp] theorem State.setReg_b (r : Reg8) (v : Byte) : (s.setReg r v).b = if r = .b then v else s.b := by cases r <;> rfl
@[simp] theorem State.setReg_c (r : Reg8) (v : Byte) : (s.setReg r v).c = if r = .c then v else s.c := by cases r <;> rfl
@[simp] theorem State.setReg_d (r : Reg8) (v : Byte) : (s.setReg r v).d = if r = .d then v else s.d := by cases r <;> rfl
@[simp] theorem State.setReg_e (r : Reg8) (v : Byte) : (s.setReg r v).e = if r = .e then v else s.e := by cases r <;> rfl
@[simp] theorem State.setReg_h (r : Reg8) (v : Byte) : (s.setReg r v).h = if r = .h then v else s.h := by cases r <;> rfl
@[simp] theorem State.setReg_l (r : Reg8) (v : Byte) : (s.setReg r v).l = if r = .l then v else s.l := by cases r <;> rfl

/-- R33: a written register reads back, and no other register changes. -/
@[simp] theorem State.getReg_setReg (r q : Reg8) (v : Byte) :
    (s.setReg r v).getReg q = if q = r then v else s.getReg q := by cases r <;> cases q <;> rfl

/-! ### setHl -/

@[simp] theorem State.setHl_a (v : Word) : (s.setHl v).a = s.a := rfl
@[simp] theorem State.setHl_f (v : Word) : (s.setHl v).f = s.f := rfl
@[simp] theorem State.setHl_pc (v : Word) : (s.setHl v).pc = s.pc := rfl
@[simp] theorem State.setHl_cycles (v : Word) : (s.setHl v).cycles = s.cycles := rfl
@[simp] theorem State.setHl_bus (v : Word) : (s.setHl v).bus = s.bus := rfl
@[simp] theorem State.setHl_status (v : Word) : (s.setHl v).status = s.status := rfl
@[simp] theorem State.setHl_sp (v : Word) : (s.setHl v).sp = s.sp := rfl

/-! ### setDest16 -/

@[simp] theorem State.setDest16_a (rr : Dest16) (v : Word) : (s.setDest16 rr v).a = s.a := by cases rr <;> rfl
@[simp] theorem State.setDest16_f (rr : Dest16) (v : Word) : (s.setDest16 rr v).f = s.f := by cases rr <;> rfl
@[simp] theorem State.setDest16_pc (rr : Dest16) (v : Word) : (s.setDest16 rr v).pc = s.pc := by cases rr <;> rfl
@[simp] theorem State.setDest16_cycles (rr : Dest16) (v : Word) : (s.setDest16 rr v).cycles = s.cycles := by cases rr <;> rfl
@[simp] theorem State.setDest16_bus (rr : Dest16) (v : Word) : (s.setDest16 rr v).bus = s.bus := by cases rr <;> rfl
@[simp] theorem State.setDest16_status (rr : Dest16) (v : Word) : (s.setDest16 rr v).status = s.status := by cases rr <;> rfl

@[simp] theorem State.setDest16_sp (rr : Dest16) (v : Word) :
    (s.setDest16 rr v).sp = if rr = .sp then v else s.sp := by cases rr <;> rfl

/-- Bits 7:0 of a joined word are the low byte, bits 15:8 the high byte. -/
theorem getLsbD_joinBytes (hi lo : Byte) (i : Nat) :
    (joinBytes hi lo).getLsbD i = if i < 8 then lo.getLsbD i else hi.getLsbD (i - 8) := by
  exact BitVec.getLsbD_append (x := hi) (y := lo) (i := i)

/-- The two halves of a joined word, and the word of its halves (R32). -/
@[simp] theorem highByte_joinBytes (hi lo : Byte) : highByte (joinBytes hi lo) = hi := by
  apply BitVec.eq_of_getLsbD_eq
  intro i h
  simp [highByte, getLsbD_joinBytes, h]

@[simp] theorem lowByte_joinBytes (hi lo : Byte) : lowByte (joinBytes hi lo) = lo := by
  apply BitVec.eq_of_getLsbD_eq
  intro i h
  simp [lowByte, getLsbD_joinBytes, h]

@[simp] theorem joinBytes_high_low (v : Word) : joinBytes (highByte v) (lowByte v) = v := by
  apply BitVec.eq_of_getLsbD_eq
  intro i h
  rw [getLsbD_joinBytes]
  split
  · simp [lowByte, *]
  · simp only [highByte, BitVec.getLsbD_extractLsb']
    rw [show 8 + (i - 8) = i by omega]
    simp; omega

/-- R33: HL reads back what was written to it. -/
@[simp] theorem State.hl_setHl (v : Word) : (s.setHl v).hl = v := joinBytes_high_low v

end Sys2Proof.Machine
end

