-- ==== Sys2Proof/Laws/Ops.lean ====
section
/-! SUPPORT. Everything each shared operation can answer, said once. A later proof cites these instead
of unfolding the operation. -/

namespace Sys2Proof.Machine

/-! ### raise and complete -/

/-- Raising never answers a next state or a refusal. -/
@[simp] theorem raise_ne_next (e : FatalError) (s t : State) : raise e s ≠ .next t := by
  cases e <;> simp [raise]

@[simp] theorem raise_ne_refused (e : FatalError) (s : State) (r : Refusal) : raise e s ≠ .refused r := by
  cases e <;> simp [raise]

@[simp] theorem complete_eq_next (n : Nat) (s t : State) : complete n s = .next t ↔ t = s.addCycles n := by
  simp [complete, eq_comm]

/-! ### readThen, writeThen -/

theorem readThen_of_ok {s : State} {a : Word} (h : s.bus.readError a = none) (k : Byte → Result) :
    readThen s a k = k (s.bus.byteAt a) := by
  simp [readThen, Bus.read_of_ok h]

theorem readThen_of_error {s : State} {a : Word} {e : FatalError} (h : s.bus.readError a = some e)
    (k : Byte → Result) : readThen s a k = raise e s := by
  simp [readThen, Bus.read_eq_error.2 h]

theorem readThen_eq_next {s t : State} {a : Word} {k : Byte → Result} :
    readThen s a k = .next t ↔ s.bus.readError a = none ∧ k (s.bus.byteAt a) = .next t := by
  cases h : s.bus.readError a with
  | none => simp [readThen_of_ok h]
  | some e => simp [readThen_of_error h]

theorem writeThen_of_ok {s : State} {a : Word} {v : Byte} (h : s.bus.writeError a v = none)
    (k : State → Result) : writeThen s a v k = k (s.setBus (s.bus.stored a v)) := by
  simp [writeThen, Bus.write_of_ok h]

theorem writeThen_of_error {s : State} {a : Word} {v : Byte} {e : FatalError}
    (h : s.bus.writeError a v = some e) (k : State → Result) : writeThen s a v k = raise e s := by
  simp [writeThen, Bus.write_eq_error.2 h]

theorem writeThen_eq_next {s t : State} {a : Word} {v : Byte} {k : State → Result} :
    writeThen s a v k = .next t ↔
      s.bus.writeError a v = none ∧ k (s.setBus (s.bus.stored a v)) = .next t := by
  cases h : s.bus.writeError a v with
  | none => simp [writeThen_of_ok h]
  | some e => simp [writeThen_of_error h]

/-! ### readWordThen, the fetches -/

/-- R64: both bytes, or the error of the first read that fails. -/
theorem readWordThen_cases (s : State) (a : Word) (k : Word → Result) :
    (s.bus.readError a = none ∧ s.bus.readError (a + 1) = none ∧
      readWordThen s a k = k (joinBytes (s.bus.byteAt (a + 1)) (s.bus.byteAt a))) ∨
    (∃ e, s.bus.readError a = some e ∧ readWordThen s a k = raise e s) ∨
    (∃ e, s.bus.readError a = none ∧ s.bus.readError (a + 1) = some e ∧
      readWordThen s a k = raise e s) := by
  cases h : s.bus.readError a with
  | some e => simp [readWordThen, Bus.readWord, Bus.read_eq_error.2 h]
  | none =>
    cases h' : s.bus.readError (a + 1) with
    | some e =>
      refine .inr (.inr ⟨e, rfl, rfl, ?_⟩)
      simp only [readWordThen, Bus.readWord, Bus.read_of_ok h, Bus.read_eq_error.2 h']
    | none =>
      refine .inl ⟨rfl, rfl, ?_⟩
      simp only [readWordThen, Bus.readWord, Bus.read_of_ok h, Bus.read_of_ok h']

/-- R121. -/
theorem fetch8_of_ok {s : State} (h : s.bus.readError s.pc = none) (k : Byte → State → Result) :
    fetch8 s k = k (s.bus.byteAt s.pc) (s.setPc (s.pc + 1)) := readThen_of_ok h _

theorem fetch8_of_error {s : State} {e : FatalError} (h : s.bus.readError s.pc = some e)
    (k : Byte → State → Result) : fetch8 s k = raise e s := readThen_of_error h _

theorem fetch8_eq_next {s t : State} {k : Byte → State → Result} :
    fetch8 s k = .next t ↔
      s.bus.readError s.pc = none ∧ k (s.bus.byteAt s.pc) (s.setPc (s.pc + 1)) = .next t :=
  readThen_eq_next

/-- R122. -/
theorem fetch16_eq_next {s t : State} {k : Word → State → Result} :
    fetch16 s k = .next t ↔
      s.bus.readError s.pc = none ∧ s.bus.readError (s.pc + 1) = none ∧
        k (joinBytes (s.bus.byteAt (s.pc + 1)) (s.bus.byteAt s.pc)) (s.setPc (s.pc + 2)) = .next t := by
  unfold fetch16
  rcases readWordThen_cases s s.pc (fun v => k v (s.setPc (s.pc + 2))) with
    ⟨h, h', e⟩ | ⟨e, h, e'⟩ | ⟨e, h, h', e'⟩ <;> simp_all

/-! ### Operands -/

/-- R93: an operand read succeeds with the register's value, or with the byte at HL. -/
theorem readOperand_eq_next {s t : State} {z : Operand} {k : Byte → Result} :
    readOperand s z k = .next t ↔
      (∃ r, z = .reg r ∧ k (s.getReg r) = .next t) ∨
      (z = .mem ∧ s.bus.readError s.hl = none ∧ k (s.bus.byteAt s.hl) = .next t) := by
  cases z <;> simp [readOperand, readThen_eq_next]

/-- R93: an operand write succeeds by writing the register, or one byte at HL. -/
theorem writeOperand_eq_next {s t : State} {z : Operand} {v : Byte} {k : State → Result} :
    writeOperand s z v k = .next t ↔
      (∃ r, z = .reg r ∧ k (s.setReg r v) = .next t) ∨
      (z = .mem ∧ s.bus.writeError s.hl v = none ∧ k (s.setBus (s.bus.stored s.hl v)) = .next t) := by
  cases z <;> simp [writeOperand, writeThen_eq_next]

/-! ### The shared shapes of the meanings -/

theorem modifyOperand_reg (r : Reg8) (res flags : Byte → Byte) (s : State) :
    modifyOperand (.reg r) res flags s =
      .next (((s.setReg r (res (s.getReg r))).setF (flags (s.getReg r))).addCycles 8) := rfl

theorem modifyOperand_mem {s : State} {res : Byte → Byte} (hr : s.bus.readError s.hl = none)
    (hw : s.bus.writeError s.hl (res (s.bus.byteAt s.hl)) = none) (flags : Byte → Byte) :
    modifyOperand .mem res flags s =
      .next (((s.setBus (s.bus.stored s.hl (res (s.bus.byteAt s.hl)))).setF
        (flags (s.bus.byteAt s.hl))).addCycles 16) := by
  simp [modifyOperand, readOperand, writeOperand, readThen_of_ok hr, writeThen_of_ok hw, costOf, complete]

/-- R237: the read's error comes first. -/
theorem modifyOperand_readError {s : State} {e : FatalError} (hr : s.bus.readError s.hl = some e)
    (res flags : Byte → Byte) : modifyOperand .mem res flags s = raise e s :=
  readThen_of_error hr _

theorem modifyOperand_writeError {s : State} {res : Byte → Byte} {e : FatalError}
    (hr : s.bus.readError s.hl = none)
    (hw : s.bus.writeError s.hl (res (s.bus.byteAt s.hl)) = some e) (flags : Byte → Byte) :
    modifyOperand .mem res flags s = raise e s := by
  simp [modifyOperand, readOperand, writeOperand, readThen_of_ok hr, writeThen_of_error hw]

/-- Everything a read-modify-write can change. -/
theorem modifyOperand_eq_next {z : Operand} {res flags : Byte → Byte} {s t : State} :
    modifyOperand z res flags s = .next t ↔
      (∃ r, z = .reg r ∧
        t = ((s.setReg r (res (s.getReg r))).setF (flags (s.getReg r))).addCycles 8) ∨
      (z = .mem ∧ s.bus.readError s.hl = none ∧
        s.bus.writeError s.hl (res (s.bus.byteAt s.hl)) = none ∧
        t = ((s.setBus (s.bus.stored s.hl (res (s.bus.byteAt s.hl)))).setF
          (flags (s.bus.byteAt s.hl))).addCycles 16) := by
  cases z <;> simp [modifyOperand, readOperand, writeOperand, readThen_eq_next, writeThen_eq_next, costOf]

/-- Everything a bit test can change. -/
theorem testBit_eq_next {n : Fin 8} {z : Operand} {s t : State} :
    testBit n z s = .next t ↔
      (∃ r, z = .reg r ∧
        t = (s.setF (bitTestFlags (bitOf (s.getReg r) n.val) s.f)).addCycles 8) ∨
      (z = .mem ∧ s.bus.readError s.hl = none ∧
        t = (s.setF (bitTestFlags (bitOf (s.bus.byteAt s.hl) n.val) s.f)).addCycles Config.cycBitHl) := by
  cases z <;> simp [testBit, readOperand, readThen_eq_next, costOf]

/-- Everything a copy can change. -/
theorem copyOperand_eq_next {dst src : Operand} {cost : Nat} {s t : State} :
    copyOperand dst src cost s = .next t ↔
      ∃ v, (src = .mem → s.bus.readError s.hl = none ∧ v = s.bus.byteAt s.hl) ∧
        (∀ r, src = .reg r → v = s.getReg r) ∧
        ((∃ r, dst = .reg r ∧ t = (s.setReg r v).addCycles cost) ∨
         (dst = .mem ∧ s.bus.writeError s.hl v = none ∧
           t = (s.setBus (s.bus.stored s.hl v)).addCycles cost)) := by
  cases src <;> cases dst <;> simp [copyOperand, readOperand, writeOperand, readThen_eq_next, writeThen_eq_next]

/-- Everything an immediate load can change. -/
theorem loadImmediate_eq_next {dst : Operand} {v : Byte} {cost : Nat} {s t : State} :
    loadImmediate dst v cost s = .next t ↔
      (∃ r, dst = .reg r ∧ t = (s.setReg r v).addCycles cost) ∨
      (dst = .mem ∧ s.bus.writeError s.hl v = none ∧
        t = (s.setBus (s.bus.stored s.hl v)).addCycles cost) := by
  cases dst <;> simp [loadImmediate, writeOperand, writeThen_eq_next]

/-- Everything a store of A with a step of HL can change. -/
theorem storeAStepHl_eq_next {delta : Word} {s t : State} :
    storeAStepHl delta s = .next t ↔
      s.bus.writeError s.hl s.a = none ∧
        t = ((s.setBus (s.bus.stored s.hl s.a)).setHl (s.hl + delta)).addCycles 8 := by
  simp [storeAStepHl, writeThen_eq_next]

end Sys2Proof.Machine
end

