-- ==== Sys2Proof/Laws/Exec.lean ====
section
/-! SUPPORT. What any instruction does, said once: the meaning of an instruction is one of the shared
shapes. A statement about every instruction is proved shape by shape with `exec_cases`. -/

namespace Sys2Proof.Machine

/-- The escape's meaning is a rotate, a bit test, reset or set, or the error of R101. -/
theorem exec_cbPrefix_cases {P : Instr → (State → Result) → Prop}
    (rotate : ∀ i k z, firstByteWritesF i = true → P i (rotateOperand k z))
    (test : ∀ i n z, firstByteWritesF i = true → P i (testBit n z))
    (reset : ∀ i n z, firstByteWritesF i = true → P i (resetBit n z))
    (set : ∀ i n z, firstByteWritesF i = true → P i (setBit n z))
    (escape : ∀ sub, P (.cbPrefix sub) (raise (.unimplementedOpcode .secondary sub)))
    (sub : Byte) : P (.cbPrefix sub) (execCbPrefix sub) := by
  have h : firstByteWritesF (.cbPrefix sub) = true := rfl
  unfold execCbPrefix
  split
  · split
    · exact rotate _ _ _ h
    · exact rotate _ _ _ h
    · exact rotate _ _ _ h
    · exact rotate _ _ _ h
    · exact escape sub
  · exact test _ _ _ h
  · exact reset _ _ _ h
  · exact set _ _ _ h

/-- The case analysis over all instructions: to prove `P i (exec i)` for every instruction, prove it
for each shared shape, with what is known of the instructions of that shape. -/
theorem exec_cases {P : Instr → (State → Result) → Prop}
    (nop : P .nop (complete 4))
    (imm16 : ∀ rr v, P (Instr.ldPairImm rr v) (loadImmediate16 rr v))
    (imm8 : ∀ i z v cost, firstByteWritesF i = false → (cost = 8 ∨ cost = 12) →
      P i (loadImmediate z v cost))
    (copy : ∀ i dst src cost, firstByteWritesF i = false → (cost = 4 ∨ cost = 8) →
      P i (copyOperand dst src cost))
    (stepHl : ∀ i delta, firstByteWritesF i = false → P i (storeAStepHl delta))
    (jr : ∀ e, P (.jrNzE8 e) (execJrNzE8 e))
    (logic : ∀ i op r, firstByteWritesF i = true → P i (logicA op r))
    (rotate : ∀ i k z, firstByteWritesF i = true → P i (rotateOperand k z))
    (test : ∀ i n z, firstByteWritesF i = true → P i (testBit n z))
    (reset : ∀ i n z, firstByteWritesF i = true → P i (resetBit n z))
    (set : ∀ i n z, firstByteWritesF i = true → P i (setBit n z))
    (escape : ∀ sub, P (.cbPrefix sub) (raise (.unimplementedOpcode .secondary sub)))
    (i : Instr) : P i (exec i) :=
  match i with
  | .nop => nop
  | .ldBcD16 v => imm16 .bc v
  | .ldBD8 v => imm8 _ (.reg .b) v 8 rfl (.inl rfl)
  | .ldCD8 v => imm8 _ (.reg .c) v 8 rfl (.inl rfl)
  | .ldDeD16 v => imm16 .de v
  | .ldDD8 v => imm8 _ (.reg .d) v 8 rfl (.inl rfl)
  | .ldED8 v => imm8 _ (.reg .e) v 8 rfl (.inl rfl)
  | .jrNzE8 e => jr e
  | .ldHlD16 v => imm16 .hl v
  | .ldHlIncA => stepHl _ 1 rfl
  | .ldHD8 v => imm8 _ (.reg .h) v 8 rfl (.inl rfl)
  | .ldLD8 v => imm8 _ (.reg .l) v 8 rfl (.inl rfl)
  | .ldSpD16 v => imm16 .sp v
  | .ldHlDecA => stepHl _ (-1) rfl
  | .ldMemD8 v => imm8 _ .mem v 12 rfl (.inr rfl)
  | .ldAD8 v => imm8 _ (.reg .a) v 8 rfl (.inl rfl)
  | .ldBB => copy _ (.reg .b) (.reg .b) 4 rfl (.inl rfl)
  | .ldBC => copy _ (.reg .b) (.reg .c) 4 rfl (.inl rfl)
  | .ldBD => copy _ (.reg .b) (.reg .d) 4 rfl (.inl rfl)
  | .ldBE => copy _ (.reg .b) (.reg .e) 4 rfl (.inl rfl)
  | .ldBH => copy _ (.reg .b) (.reg .h) 4 rfl (.inl rfl)
  | .ldBL => copy _ (.reg .b) (.reg .l) 4 rfl (.inl rfl)
  | .ldBMem => copy _ (.reg .b) .mem 8 rfl (.inr rfl)
  | .ldBA => copy _ (.reg .b) (.reg .a) 4 rfl (.inl rfl)
  | .ldCB => copy _ (.reg .c) (.reg .b) 4 rfl (.inl rfl)
  | .ldCC => copy _ (.reg .c) (.reg .c) 4 rfl (.inl rfl)
  | .ldCD => copy _ (.reg .c) (.reg .d) 4 rfl (.inl rfl)
  | .ldCE => copy _ (.reg .c) (.reg .e) 4 rfl (.inl rfl)
  | .ldCH => copy _ (.reg .c) (.reg .h) 4 rfl (.inl rfl)
  | .ldCL => copy _ (.reg .c) (.reg .l) 4 rfl (.inl rfl)
  | .ldCMem => copy _ (.reg .c) .mem 8 rfl (.inr rfl)
  | .ldCA => copy _ (.reg .c) (.reg .a) 4 rfl (.inl rfl)
  | .ldDB => copy _ (.reg .d) (.reg .b) 4 rfl (.inl rfl)
  | .ldDC => copy _ (.reg .d) (.reg .c) 4 rfl (.inl rfl)
  | .ldDD => copy _ (.reg .d) (.reg .d) 4 rfl (.inl rfl)
  | .ldDE => copy _ (.reg .d) (.reg .e) 4 rfl (.inl rfl)
  | .ldDH => copy _ (.reg .d) (.reg .h) 4 rfl (.inl rfl)
  | .ldDL => copy _ (.reg .d) (.reg .l) 4 rfl (.inl rfl)
  | .ldDMem => copy _ (.reg .d) .mem 8 rfl (.inr rfl)
  | .ldDA => copy _ (.reg .d) (.reg .a) 4 rfl (.inl rfl)
  | .ldEB => copy _ (.reg .e) (.reg .b) 4 rfl (.inl rfl)
  | .ldEC => copy _ (.reg .e) (.reg .c) 4 rfl (.inl rfl)
  | .ldED => copy _ (.reg .e) (.reg .d) 4 rfl (.inl rfl)
  | .ldEE => copy _ (.reg .e) (.reg .e) 4 rfl (.inl rfl)
  | .ldEH => copy _ (.reg .e) (.reg .h) 4 rfl (.inl rfl)
  | .ldEL => copy _ (.reg .e) (.reg .l) 4 rfl (.inl rfl)
  | .ldEMem => copy _ (.reg .e) .mem 8 rfl (.inr rfl)
  | .ldEA => copy _ (.reg .e) (.reg .a) 4 rfl (.inl rfl)
  | .ldHB => copy _ (.reg .h) (.reg .b) 4 rfl (.inl rfl)
  | .ldHC => copy _ (.reg .h) (.reg .c) 4 rfl (.inl rfl)
  | .ldHD => copy _ (.reg .h) (.reg .d) 4 rfl (.inl rfl)
  | .ldHE => copy _ (.reg .h) (.reg .e) 4 rfl (.inl rfl)
  | .ldHH => copy _ (.reg .h) (.reg .h) 4 rfl (.inl rfl)
  | .ldHL => copy _ (.reg .h) (.reg .l) 4 rfl (.inl rfl)
  | .ldHMem => copy _ (.reg .h) .mem 8 rfl (.inr rfl)
  | .ldHA => copy _ (.reg .h) (.reg .a) 4 rfl (.inl rfl)
  | .ldLB => copy _ (.reg .l) (.reg .b) 4 rfl (.inl rfl)
  | .ldLC => copy _ (.reg .l) (.reg .c) 4 rfl (.inl rfl)
  | .ldLD => copy _ (.reg .l) (.reg .d) 4 rfl (.inl rfl)
  | .ldLE => copy _ (.reg .l) (.reg .e) 4 rfl (.inl rfl)
  | .ldLH => copy _ (.reg .l) (.reg .h) 4 rfl (.inl rfl)
  | .ldLL => copy _ (.reg .l) (.reg .l) 4 rfl (.inl rfl)
  | .ldLMem => copy _ (.reg .l) .mem 8 rfl (.inr rfl)
  | .ldLA => copy _ (.reg .l) (.reg .a) 4 rfl (.inl rfl)
  | .ldMemB => copy _ .mem (.reg .b) 8 rfl (.inr rfl)
  | .ldMemC => copy _ .mem (.reg .c) 8 rfl (.inr rfl)
  | .ldMemD => copy _ .mem (.reg .d) 8 rfl (.inr rfl)
  | .ldMemE => copy _ .mem (.reg .e) 8 rfl (.inr rfl)
  | .ldMemH => copy _ .mem (.reg .h) 8 rfl (.inr rfl)
  | .ldMemL => copy _ .mem (.reg .l) 8 rfl (.inr rfl)
  | .ldMemA => copy _ .mem (.reg .a) 8 rfl (.inr rfl)
  | .ldAB => copy _ (.reg .a) (.reg .b) 4 rfl (.inl rfl)
  | .ldAC => copy _ (.reg .a) (.reg .c) 4 rfl (.inl rfl)
  | .ldAD => copy _ (.reg .a) (.reg .d) 4 rfl (.inl rfl)
  | .ldAE => copy _ (.reg .a) (.reg .e) 4 rfl (.inl rfl)
  | .ldAH => copy _ (.reg .a) (.reg .h) 4 rfl (.inl rfl)
  | .ldAL => copy _ (.reg .a) (.reg .l) 4 rfl (.inl rfl)
  | .ldAMem => copy _ (.reg .a) .mem 8 rfl (.inr rfl)
  | .ldAA => copy _ (.reg .a) (.reg .a) 4 rfl (.inl rfl)
  | .xorB => logic _ (· ^^^ ·) .b rfl
  | .xorC => logic _ (· ^^^ ·) .c rfl
  | .xorD => logic _ (· ^^^ ·) .d rfl
  | .xorE => logic _ (· ^^^ ·) .e rfl
  | .xorH => logic _ (· ^^^ ·) .h rfl
  | .xorL => logic _ (· ^^^ ·) .l rfl
  | .xorA => logic _ (· ^^^ ·) .a rfl
  | .orB => logic _ (· ||| ·) .b rfl
  | .orC => logic _ (· ||| ·) .c rfl
  | .orD => logic _ (· ||| ·) .d rfl
  | .orE => logic _ (· ||| ·) .e rfl
  | .orH => logic _ (· ||| ·) .h rfl
  | .orL => logic _ (· ||| ·) .l rfl
  | .orA => logic _ (· ||| ·) .a rfl
  | .cbPrefix sub => exec_cbPrefix_cases rotate test reset set escape sub
  | .rlcB => rotate _ .rlc (.reg .b) rfl
  | .rlcC => rotate _ .rlc (.reg .c) rfl
  | .rlcD => rotate _ .rlc (.reg .d) rfl
  | .rlcE => rotate _ .rlc (.reg .e) rfl
  | .rlcH => rotate _ .rlc (.reg .h) rfl
  | .rlcL => rotate _ .rlc (.reg .l) rfl
  | .rlcMem => rotate _ .rlc .mem rfl
  | .rlcA => rotate _ .rlc (.reg .a) rfl
  | .rrcB => rotate _ .rrc (.reg .b) rfl
  | .rrcC => rotate _ .rrc (.reg .c) rfl
  | .rrcD => rotate _ .rrc (.reg .d) rfl
  | .rrcE => rotate _ .rrc (.reg .e) rfl
  | .rrcH => rotate _ .rrc (.reg .h) rfl
  | .rrcL => rotate _ .rrc (.reg .l) rfl
  | .rrcMem => rotate _ .rrc .mem rfl
  | .rrcA => rotate _ .rrc (.reg .a) rfl
  | .rlB => rotate _ .rl (.reg .b) rfl
  | .rlC => rotate _ .rl (.reg .c) rfl
  | .rlD => rotate _ .rl (.reg .d) rfl
  | .rlE => rotate _ .rl (.reg .e) rfl
  | .rlH => rotate _ .rl (.reg .h) rfl
  | .rlL => rotate _ .rl (.reg .l) rfl
  | .rlMem => rotate _ .rl .mem rfl
  | .rlA => rotate _ .rl (.reg .a) rfl
  | .rrB => rotate _ .rr (.reg .b) rfl
  | .rrC => rotate _ .rr (.reg .c) rfl
  | .rrD => rotate _ .rr (.reg .d) rfl
  | .rrE => rotate _ .rr (.reg .e) rfl
  | .rrH => rotate _ .rr (.reg .h) rfl
  | .rrL => rotate _ .rr (.reg .l) rfl
  | .rrMem => rotate _ .rr .mem rfl
  | .rrA => rotate _ .rr (.reg .a) rfl
  | .bit0B => test _ 0 (.reg .b) rfl
  | .bit0C => test _ 0 (.reg .c) rfl
  | .bit0D => test _ 0 (.reg .d) rfl
  | .bit0E => test _ 0 (.reg .e) rfl
  | .bit0H => test _ 0 (.reg .h) rfl
  | .bit0L => test _ 0 (.reg .l) rfl
  | .bit0Mem => test _ 0 .mem rfl
  | .bit0A => test _ 0 (.reg .a) rfl
  | .bit1B => test _ 1 (.reg .b) rfl
  | .bit1C => test _ 1 (.reg .c) rfl
  | .bit1D => test _ 1 (.reg .d) rfl
  | .bit1E => test _ 1 (.reg .e) rfl
  | .bit1H => test _ 1 (.reg .h) rfl
  | .bit1L => test _ 1 (.reg .l) rfl
  | .bit1Mem => test _ 1 .mem rfl
  | .bit1A => test _ 1 (.reg .a) rfl
  | .bit2B => test _ 2 (.reg .b) rfl
  | .bit2C => test _ 2 (.reg .c) rfl
  | .bit2D => test _ 2 (.reg .d) rfl
  | .bit2E => test _ 2 (.reg .e) rfl
  | .bit2H => test _ 2 (.reg .h) rfl
  | .bit2L => test _ 2 (.reg .l) rfl
  | .bit2Mem => test _ 2 .mem rfl
  | .bit2A => test _ 2 (.reg .a) rfl
  | .bit3B => test _ 3 (.reg .b) rfl
  | .bit3C => test _ 3 (.reg .c) rfl
  | .bit3D => test _ 3 (.reg .d) rfl
  | .bit3E => test _ 3 (.reg .e) rfl
  | .bit3H => test _ 3 (.reg .h) rfl
  | .bit3L => test _ 3 (.reg .l) rfl
  | .bit3Mem => test _ 3 .mem rfl
  | .bit3A => test _ 3 (.reg .a) rfl
  | .bit4B => test _ 4 (.reg .b) rfl
  | .bit4C => test _ 4 (.reg .c) rfl
  | .bit4D => test _ 4 (.reg .d) rfl
  | .bit4E => test _ 4 (.reg .e) rfl
  | .bit4H => test _ 4 (.reg .h) rfl
  | .bit4L => test _ 4 (.reg .l) rfl
  | .bit4Mem => test _ 4 .mem rfl
  | .bit4A => test _ 4 (.reg .a) rfl
  | .bit5B => test _ 5 (.reg .b) rfl
  | .bit5C => test _ 5 (.reg .c) rfl
  | .bit5D => test _ 5 (.reg .d) rfl
  | .bit5E => test _ 5 (.reg .e) rfl
  | .bit5H => test _ 5 (.reg .h) rfl
  | .bit5L => test _ 5 (.reg .l) rfl
  | .bit5Mem => test _ 5 .mem rfl
  | .bit5A => test _ 5 (.reg .a) rfl
  | .bit6B => test _ 6 (.reg .b) rfl
  | .bit6C => test _ 6 (.reg .c) rfl
  | .bit6D => test _ 6 (.reg .d) rfl
  | .bit6E => test _ 6 (.reg .e) rfl
  | .bit6H => test _ 6 (.reg .h) rfl
  | .bit6L => test _ 6 (.reg .l) rfl
  | .bit6Mem => test _ 6 .mem rfl
  | .bit6A => test _ 6 (.reg .a) rfl
  | .bit7B => test _ 7 (.reg .b) rfl
  | .bit7C => test _ 7 (.reg .c) rfl
  | .bit7D => test _ 7 (.reg .d) rfl
  | .bit7E => test _ 7 (.reg .e) rfl
  | .bit7H => test _ 7 (.reg .h) rfl
  | .bit7L => test _ 7 (.reg .l) rfl
  | .bit7Mem => test _ 7 .mem rfl
  | .bit7A => test _ 7 (.reg .a) rfl
  | .res0B => reset _ 0 (.reg .b) rfl
  | .res0C => reset _ 0 (.reg .c) rfl
  | .res0D => reset _ 0 (.reg .d) rfl
  | .res0E => reset _ 0 (.reg .e) rfl
  | .res0H => reset _ 0 (.reg .h) rfl
  | .res0L => reset _ 0 (.reg .l) rfl
  | .res0Mem => reset _ 0 .mem rfl
  | .res0A => reset _ 0 (.reg .a) rfl
  | .res1B => reset _ 1 (.reg .b) rfl
  | .res1C => reset _ 1 (.reg .c) rfl
  | .res1D => reset _ 1 (.reg .d) rfl
  | .res1E => reset _ 1 (.reg .e) rfl
  | .res1H => reset _ 1 (.reg .h) rfl
  | .res1L => reset _ 1 (.reg .l) rfl
  | .res1Mem => reset _ 1 .mem rfl
  | .res1A => reset _ 1 (.reg .a) rfl
  | .res2B => reset _ 2 (.reg .b) rfl
  | .res2C => reset _ 2 (.reg .c) rfl
  | .res2D => reset _ 2 (.reg .d) rfl
  | .res2E => reset _ 2 (.reg .e) rfl
  | .res2H => reset _ 2 (.reg .h) rfl
  | .res2L => reset _ 2 (.reg .l) rfl
  | .res2Mem => reset _ 2 .mem rfl
  | .res2A => reset _ 2 (.reg .a) rfl
  | .res3B => reset _ 3 (.reg .b) rfl
  | .res3C => reset _ 3 (.reg .c) rfl
  | .res3D => reset _ 3 (.reg .d) rfl
  | .res3E => reset _ 3 (.reg .e) rfl
  | .res3H => reset _ 3 (.reg .h) rfl
  | .res3L => reset _ 3 (.reg .l) rfl
  | .res3Mem => reset _ 3 .mem rfl
  | .res3A => reset _ 3 (.reg .a) rfl
  | .res4B => reset _ 4 (.reg .b) rfl
  | .res4C => reset _ 4 (.reg .c) rfl
  | .res4D => reset _ 4 (.reg .d) rfl
  | .res4E => reset _ 4 (.reg .e) rfl
  | .res4H => reset _ 4 (.reg .h) rfl
  | .res4L => reset _ 4 (.reg .l) rfl
  | .res4Mem => reset _ 4 .mem rfl
  | .res4A => reset _ 4 (.reg .a) rfl
  | .res5B => reset _ 5 (.reg .b) rfl
  | .res5C => reset _ 5 (.reg .c) rfl
  | .res5D => reset _ 5 (.reg .d) rfl
  | .res5E => reset _ 5 (.reg .e) rfl
  | .res5H => reset _ 5 (.reg .h) rfl
  | .res5L => reset _ 5 (.reg .l) rfl
  | .res5Mem => reset _ 5 .mem rfl
  | .res5A => reset _ 5 (.reg .a) rfl
  | .res6B => reset _ 6 (.reg .b) rfl
  | .res6C => reset _ 6 (.reg .c) rfl
  | .res6D => reset _ 6 (.reg .d) rfl
  | .res6E => reset _ 6 (.reg .e) rfl
  | .res6H => reset _ 6 (.reg .h) rfl
  | .res6L => reset _ 6 (.reg .l) rfl
  | .res6Mem => reset _ 6 .mem rfl
  | .res6A => reset _ 6 (.reg .a) rfl
  | .res7B => reset _ 7 (.reg .b) rfl
  | .res7C => reset _ 7 (.reg .c) rfl
  | .res7D => reset _ 7 (.reg .d) rfl
  | .res7E => reset _ 7 (.reg .e) rfl
  | .res7H => reset _ 7 (.reg .h) rfl
  | .res7L => reset _ 7 (.reg .l) rfl
  | .res7Mem => reset _ 7 .mem rfl
  | .res7A => reset _ 7 (.reg .a) rfl
  | .set0B => set _ 0 (.reg .b) rfl
  | .set0C => set _ 0 (.reg .c) rfl
  | .set0D => set _ 0 (.reg .d) rfl
  | .set0E => set _ 0 (.reg .e) rfl
  | .set0H => set _ 0 (.reg .h) rfl
  | .set0L => set _ 0 (.reg .l) rfl
  | .set0Mem => set _ 0 .mem rfl
  | .set0A => set _ 0 (.reg .a) rfl
  | .set1B => set _ 1 (.reg .b) rfl
  | .set1C => set _ 1 (.reg .c) rfl
  | .set1D => set _ 1 (.reg .d) rfl
  | .set1E => set _ 1 (.reg .e) rfl
  | .set1H => set _ 1 (.reg .h) rfl
  | .set1L => set _ 1 (.reg .l) rfl
  | .set1Mem => set _ 1 .mem rfl
  | .set1A => set _ 1 (.reg .a) rfl
  | .set2B => set _ 2 (.reg .b) rfl
  | .set2C => set _ 2 (.reg .c) rfl
  | .set2D => set _ 2 (.reg .d) rfl
  | .set2E => set _ 2 (.reg .e) rfl
  | .set2H => set _ 2 (.reg .h) rfl
  | .set2L => set _ 2 (.reg .l) rfl
  | .set2Mem => set _ 2 .mem rfl
  | .set2A => set _ 2 (.reg .a) rfl
  | .set3B => set _ 3 (.reg .b) rfl
  | .set3C => set _ 3 (.reg .c) rfl
  | .set3D => set _ 3 (.reg .d) rfl
  | .set3E => set _ 3 (.reg .e) rfl
  | .set3H => set _ 3 (.reg .h) rfl
  | .set3L => set _ 3 (.reg .l) rfl
  | .set3Mem => set _ 3 .mem rfl
  | .set3A => set _ 3 (.reg .a) rfl
  | .set4B => set _ 4 (.reg .b) rfl
  | .set4C => set _ 4 (.reg .c) rfl
  | .set4D => set _ 4 (.reg .d) rfl
  | .set4E => set _ 4 (.reg .e) rfl
  | .set4H => set _ 4 (.reg .h) rfl
  | .set4L => set _ 4 (.reg .l) rfl
  | .set4Mem => set _ 4 .mem rfl
  | .set4A => set _ 4 (.reg .a) rfl
  | .set5B => set _ 5 (.reg .b) rfl
  | .set5C => set _ 5 (.reg .c) rfl
  | .set5D => set _ 5 (.reg .d) rfl
  | .set5E => set _ 5 (.reg .e) rfl
  | .set5H => set _ 5 (.reg .h) rfl
  | .set5L => set _ 5 (.reg .l) rfl
  | .set5Mem => set _ 5 .mem rfl
  | .set5A => set _ 5 (.reg .a) rfl
  | .set6B => set _ 6 (.reg .b) rfl
  | .set6C => set _ 6 (.reg .c) rfl
  | .set6D => set _ 6 (.reg .d) rfl
  | .set6E => set _ 6 (.reg .e) rfl
  | .set6H => set _ 6 (.reg .h) rfl
  | .set6L => set _ 6 (.reg .l) rfl
  | .set6Mem => set _ 6 .mem rfl
  | .set6A => set _ 6 (.reg .a) rfl
  | .set7B => set _ 7 (.reg .b) rfl
  | .set7C => set _ 7 (.reg .c) rfl
  | .set7D => set _ 7 (.reg .d) rfl
  | .set7E => set _ 7 (.reg .e) rfl
  | .set7H => set _ 7 (.reg .h) rfl
  | .set7L => set _ 7 (.reg .l) rfl
  | .set7Mem => set _ 7 .mem rfl
  | .set7A => set _ 7 (.reg .a) rfl

end Sys2Proof.Machine
end

