-- ==== Sys2Proof/Laws/PerInstr.lean ====
section
/-! SUPPORT. Statements about every instruction, one lemma per constructor of Instr. `RoundTrip`:
decoding the bytes of a well-formed instruction, whatever bytes follow them, gives the instruction
back and leaves those bytes. -/

namespace Sys2Proof.Laws

open Sys2Proof.Machine

/-- The decoder reads back the encoder's bytes, with every immediate at every value. -/
def RoundTrip.Statement (i : Instr) : Prop :=
  WellFormed i → ∀ rest : List Byte, decode (encode i ++ rest) = .ok (i, rest)

/-- A 16-bit immediate is read back from its two bytes (R96). -/
theorem RoundTrip.of_word {mk : Word → Instr} {op : Byte} (h : primary op = some (.word mk)) (v : Word)
    (rest : List Byte) : decode (op :: lowByte v :: highByte v :: rest) = .ok (mk v, rest) := by
  simp [decode, h]

/-- A sub-opcode with no handler stays the escape's own (R101). -/
theorem RoundTrip.of_sub : ∀ sub : Byte, subUnimplemented sub = true → secondary sub = .cbPrefix sub := by
  decide

theorem RoundTrip.nop : RoundTrip.Statement .nop := fun _ _ => rfl
theorem RoundTrip.ldBcD16 (v : Word) : RoundTrip.Statement (.ldBcD16 v) := fun _ rest => RoundTrip.of_word rfl v rest
theorem RoundTrip.ldBD8 (v : Byte) : RoundTrip.Statement (.ldBD8 v) := fun _ _ => rfl
theorem RoundTrip.ldCD8 (v : Byte) : RoundTrip.Statement (.ldCD8 v) := fun _ _ => rfl
theorem RoundTrip.ldDeD16 (v : Word) : RoundTrip.Statement (.ldDeD16 v) := fun _ rest => RoundTrip.of_word rfl v rest
theorem RoundTrip.ldDD8 (v : Byte) : RoundTrip.Statement (.ldDD8 v) := fun _ _ => rfl
theorem RoundTrip.ldED8 (v : Byte) : RoundTrip.Statement (.ldED8 v) := fun _ _ => rfl
theorem RoundTrip.jrNzE8 (e : Byte) : RoundTrip.Statement (.jrNzE8 e) := fun _ _ => rfl
theorem RoundTrip.ldHlD16 (v : Word) : RoundTrip.Statement (.ldHlD16 v) := fun _ rest => RoundTrip.of_word rfl v rest
theorem RoundTrip.ldHlIncA : RoundTrip.Statement .ldHlIncA := fun _ _ => rfl
theorem RoundTrip.ldHD8 (v : Byte) : RoundTrip.Statement (.ldHD8 v) := fun _ _ => rfl
theorem RoundTrip.ldLD8 (v : Byte) : RoundTrip.Statement (.ldLD8 v) := fun _ _ => rfl
theorem RoundTrip.ldSpD16 (v : Word) : RoundTrip.Statement (.ldSpD16 v) := fun _ rest => RoundTrip.of_word rfl v rest
theorem RoundTrip.ldHlDecA : RoundTrip.Statement .ldHlDecA := fun _ _ => rfl
theorem RoundTrip.ldMemD8 (v : Byte) : RoundTrip.Statement (.ldMemD8 v) := fun _ _ => rfl
theorem RoundTrip.ldAD8 (v : Byte) : RoundTrip.Statement (.ldAD8 v) := fun _ _ => rfl
theorem RoundTrip.ldBB : RoundTrip.Statement .ldBB := fun _ _ => rfl
theorem RoundTrip.ldBC : RoundTrip.Statement .ldBC := fun _ _ => rfl
theorem RoundTrip.ldBD : RoundTrip.Statement .ldBD := fun _ _ => rfl
theorem RoundTrip.ldBE : RoundTrip.Statement .ldBE := fun _ _ => rfl
theorem RoundTrip.ldBH : RoundTrip.Statement .ldBH := fun _ _ => rfl
theorem RoundTrip.ldBL : RoundTrip.Statement .ldBL := fun _ _ => rfl
theorem RoundTrip.ldBMem : RoundTrip.Statement .ldBMem := fun _ _ => rfl
theorem RoundTrip.ldBA : RoundTrip.Statement .ldBA := fun _ _ => rfl
theorem RoundTrip.ldCB : RoundTrip.Statement .ldCB := fun _ _ => rfl
theorem RoundTrip.ldCC : RoundTrip.Statement .ldCC := fun _ _ => rfl
theorem RoundTrip.ldCD : RoundTrip.Statement .ldCD := fun _ _ => rfl
theorem RoundTrip.ldCE : RoundTrip.Statement .ldCE := fun _ _ => rfl
theorem RoundTrip.ldCH : RoundTrip.Statement .ldCH := fun _ _ => rfl
theorem RoundTrip.ldCL : RoundTrip.Statement .ldCL := fun _ _ => rfl
theorem RoundTrip.ldCMem : RoundTrip.Statement .ldCMem := fun _ _ => rfl
theorem RoundTrip.ldCA : RoundTrip.Statement .ldCA := fun _ _ => rfl
theorem RoundTrip.ldDB : RoundTrip.Statement .ldDB := fun _ _ => rfl
theorem RoundTrip.ldDC : RoundTrip.Statement .ldDC := fun _ _ => rfl
theorem RoundTrip.ldDD : RoundTrip.Statement .ldDD := fun _ _ => rfl
theorem RoundTrip.ldDE : RoundTrip.Statement .ldDE := fun _ _ => rfl
theorem RoundTrip.ldDH : RoundTrip.Statement .ldDH := fun _ _ => rfl
theorem RoundTrip.ldDL : RoundTrip.Statement .ldDL := fun _ _ => rfl
theorem RoundTrip.ldDMem : RoundTrip.Statement .ldDMem := fun _ _ => rfl
theorem RoundTrip.ldDA : RoundTrip.Statement .ldDA := fun _ _ => rfl
theorem RoundTrip.ldEB : RoundTrip.Statement .ldEB := fun _ _ => rfl
theorem RoundTrip.ldEC : RoundTrip.Statement .ldEC := fun _ _ => rfl
theorem RoundTrip.ldED : RoundTrip.Statement .ldED := fun _ _ => rfl
theorem RoundTrip.ldEE : RoundTrip.Statement .ldEE := fun _ _ => rfl
theorem RoundTrip.ldEH : RoundTrip.Statement .ldEH := fun _ _ => rfl
theorem RoundTrip.ldEL : RoundTrip.Statement .ldEL := fun _ _ => rfl
theorem RoundTrip.ldEMem : RoundTrip.Statement .ldEMem := fun _ _ => rfl
theorem RoundTrip.ldEA : RoundTrip.Statement .ldEA := fun _ _ => rfl
theorem RoundTrip.ldHB : RoundTrip.Statement .ldHB := fun _ _ => rfl
theorem RoundTrip.ldHC : RoundTrip.Statement .ldHC := fun _ _ => rfl
theorem RoundTrip.ldHD : RoundTrip.Statement .ldHD := fun _ _ => rfl
theorem RoundTrip.ldHE : RoundTrip.Statement .ldHE := fun _ _ => rfl
theorem RoundTrip.ldHH : RoundTrip.Statement .ldHH := fun _ _ => rfl
theorem RoundTrip.ldHL : RoundTrip.Statement .ldHL := fun _ _ => rfl
theorem RoundTrip.ldHMem : RoundTrip.Statement .ldHMem := fun _ _ => rfl
theorem RoundTrip.ldHA : RoundTrip.Statement .ldHA := fun _ _ => rfl
theorem RoundTrip.ldLB : RoundTrip.Statement .ldLB := fun _ _ => rfl
theorem RoundTrip.ldLC : RoundTrip.Statement .ldLC := fun _ _ => rfl
theorem RoundTrip.ldLD : RoundTrip.Statement .ldLD := fun _ _ => rfl
theorem RoundTrip.ldLE : RoundTrip.Statement .ldLE := fun _ _ => rfl
theorem RoundTrip.ldLH : RoundTrip.Statement .ldLH := fun _ _ => rfl
theorem RoundTrip.ldLL : RoundTrip.Statement .ldLL := fun _ _ => rfl
theorem RoundTrip.ldLMem : RoundTrip.Statement .ldLMem := fun _ _ => rfl
theorem RoundTrip.ldLA : RoundTrip.Statement .ldLA := fun _ _ => rfl
theorem RoundTrip.ldMemB : RoundTrip.Statement .ldMemB := fun _ _ => rfl
theorem RoundTrip.ldMemC : RoundTrip.Statement .ldMemC := fun _ _ => rfl
theorem RoundTrip.ldMemD : RoundTrip.Statement .ldMemD := fun _ _ => rfl
theorem RoundTrip.ldMemE : RoundTrip.Statement .ldMemE := fun _ _ => rfl
theorem RoundTrip.ldMemH : RoundTrip.Statement .ldMemH := fun _ _ => rfl
theorem RoundTrip.ldMemL : RoundTrip.Statement .ldMemL := fun _ _ => rfl
theorem RoundTrip.ldMemA : RoundTrip.Statement .ldMemA := fun _ _ => rfl
theorem RoundTrip.ldAB : RoundTrip.Statement .ldAB := fun _ _ => rfl
theorem RoundTrip.ldAC : RoundTrip.Statement .ldAC := fun _ _ => rfl
theorem RoundTrip.ldAD : RoundTrip.Statement .ldAD := fun _ _ => rfl
theorem RoundTrip.ldAE : RoundTrip.Statement .ldAE := fun _ _ => rfl
theorem RoundTrip.ldAH : RoundTrip.Statement .ldAH := fun _ _ => rfl
theorem RoundTrip.ldAL : RoundTrip.Statement .ldAL := fun _ _ => rfl
theorem RoundTrip.ldAMem : RoundTrip.Statement .ldAMem := fun _ _ => rfl
theorem RoundTrip.ldAA : RoundTrip.Statement .ldAA := fun _ _ => rfl
theorem RoundTrip.xorB : RoundTrip.Statement .xorB := fun _ _ => rfl
theorem RoundTrip.xorC : RoundTrip.Statement .xorC := fun _ _ => rfl
theorem RoundTrip.xorD : RoundTrip.Statement .xorD := fun _ _ => rfl
theorem RoundTrip.xorE : RoundTrip.Statement .xorE := fun _ _ => rfl
theorem RoundTrip.xorH : RoundTrip.Statement .xorH := fun _ _ => rfl
theorem RoundTrip.xorL : RoundTrip.Statement .xorL := fun _ _ => rfl
theorem RoundTrip.xorA : RoundTrip.Statement .xorA := fun _ _ => rfl
theorem RoundTrip.orB : RoundTrip.Statement .orB := fun _ _ => rfl
theorem RoundTrip.orC : RoundTrip.Statement .orC := fun _ _ => rfl
theorem RoundTrip.orD : RoundTrip.Statement .orD := fun _ _ => rfl
theorem RoundTrip.orE : RoundTrip.Statement .orE := fun _ _ => rfl
theorem RoundTrip.orH : RoundTrip.Statement .orH := fun _ _ => rfl
theorem RoundTrip.orL : RoundTrip.Statement .orL := fun _ _ => rfl
theorem RoundTrip.orA : RoundTrip.Statement .orA := fun _ _ => rfl
theorem RoundTrip.cbPrefix (sub : Byte) : RoundTrip.Statement (.cbPrefix sub) := fun h rest =>
  congrArg (fun i => Except.ok (i, rest)) (RoundTrip.of_sub sub h)
theorem RoundTrip.rlcB : RoundTrip.Statement .rlcB := fun _ _ => rfl
theorem RoundTrip.rlcC : RoundTrip.Statement .rlcC := fun _ _ => rfl
theorem RoundTrip.rlcD : RoundTrip.Statement .rlcD := fun _ _ => rfl
theorem RoundTrip.rlcE : RoundTrip.Statement .rlcE := fun _ _ => rfl
theorem RoundTrip.rlcH : RoundTrip.Statement .rlcH := fun _ _ => rfl
theorem RoundTrip.rlcL : RoundTrip.Statement .rlcL := fun _ _ => rfl
theorem RoundTrip.rlcMem : RoundTrip.Statement .rlcMem := fun _ _ => rfl
theorem RoundTrip.rlcA : RoundTrip.Statement .rlcA := fun _ _ => rfl
theorem RoundTrip.rrcB : RoundTrip.Statement .rrcB := fun _ _ => rfl
theorem RoundTrip.rrcC : RoundTrip.Statement .rrcC := fun _ _ => rfl
theorem RoundTrip.rrcD : RoundTrip.Statement .rrcD := fun _ _ => rfl
theorem RoundTrip.rrcE : RoundTrip.Statement .rrcE := fun _ _ => rfl
theorem RoundTrip.rrcH : RoundTrip.Statement .rrcH := fun _ _ => rfl
theorem RoundTrip.rrcL : RoundTrip.Statement .rrcL := fun _ _ => rfl
theorem RoundTrip.rrcMem : RoundTrip.Statement .rrcMem := fun _ _ => rfl
theorem RoundTrip.rrcA : RoundTrip.Statement .rrcA := fun _ _ => rfl
theorem RoundTrip.rlB : RoundTrip.Statement .rlB := fun _ _ => rfl
theorem RoundTrip.rlC : RoundTrip.Statement .rlC := fun _ _ => rfl
theorem RoundTrip.rlD : RoundTrip.Statement .rlD := fun _ _ => rfl
theorem RoundTrip.rlE : RoundTrip.Statement .rlE := fun _ _ => rfl
theorem RoundTrip.rlH : RoundTrip.Statement .rlH := fun _ _ => rfl
theorem RoundTrip.rlL : RoundTrip.Statement .rlL := fun _ _ => rfl
theorem RoundTrip.rlMem : RoundTrip.Statement .rlMem := fun _ _ => rfl
theorem RoundTrip.rlA : RoundTrip.Statement .rlA := fun _ _ => rfl
theorem RoundTrip.rrB : RoundTrip.Statement .rrB := fun _ _ => rfl
theorem RoundTrip.rrC : RoundTrip.Statement .rrC := fun _ _ => rfl
theorem RoundTrip.rrD : RoundTrip.Statement .rrD := fun _ _ => rfl
theorem RoundTrip.rrE : RoundTrip.Statement .rrE := fun _ _ => rfl
theorem RoundTrip.rrH : RoundTrip.Statement .rrH := fun _ _ => rfl
theorem RoundTrip.rrL : RoundTrip.Statement .rrL := fun _ _ => rfl
theorem RoundTrip.rrMem : RoundTrip.Statement .rrMem := fun _ _ => rfl
theorem RoundTrip.rrA : RoundTrip.Statement .rrA := fun _ _ => rfl
theorem RoundTrip.bit0B : RoundTrip.Statement .bit0B := fun _ _ => rfl
theorem RoundTrip.bit0C : RoundTrip.Statement .bit0C := fun _ _ => rfl
theorem RoundTrip.bit0D : RoundTrip.Statement .bit0D := fun _ _ => rfl
theorem RoundTrip.bit0E : RoundTrip.Statement .bit0E := fun _ _ => rfl
theorem RoundTrip.bit0H : RoundTrip.Statement .bit0H := fun _ _ => rfl
theorem RoundTrip.bit0L : RoundTrip.Statement .bit0L := fun _ _ => rfl
theorem RoundTrip.bit0Mem : RoundTrip.Statement .bit0Mem := fun _ _ => rfl
theorem RoundTrip.bit0A : RoundTrip.Statement .bit0A := fun _ _ => rfl
theorem RoundTrip.bit1B : RoundTrip.Statement .bit1B := fun _ _ => rfl
theorem RoundTrip.bit1C : RoundTrip.Statement .bit1C := fun _ _ => rfl
theorem RoundTrip.bit1D : RoundTrip.Statement .bit1D := fun _ _ => rfl
theorem RoundTrip.bit1E : RoundTrip.Statement .bit1E := fun _ _ => rfl
theorem RoundTrip.bit1H : RoundTrip.Statement .bit1H := fun _ _ => rfl
theorem RoundTrip.bit1L : RoundTrip.Statement .bit1L := fun _ _ => rfl
theorem RoundTrip.bit1Mem : RoundTrip.Statement .bit1Mem := fun _ _ => rfl
theorem RoundTrip.bit1A : RoundTrip.Statement .bit1A := fun _ _ => rfl
theorem RoundTrip.bit2B : RoundTrip.Statement .bit2B := fun _ _ => rfl
theorem RoundTrip.bit2C : RoundTrip.Statement .bit2C := fun _ _ => rfl
theorem RoundTrip.bit2D : RoundTrip.Statement .bit2D := fun _ _ => rfl
theorem RoundTrip.bit2E : RoundTrip.Statement .bit2E := fun _ _ => rfl
theorem RoundTrip.bit2H : RoundTrip.Statement .bit2H := fun _ _ => rfl
theorem RoundTrip.bit2L : RoundTrip.Statement .bit2L := fun _ _ => rfl
theorem RoundTrip.bit2Mem : RoundTrip.Statement .bit2Mem := fun _ _ => rfl
theorem RoundTrip.bit2A : RoundTrip.Statement .bit2A := fun _ _ => rfl
theorem RoundTrip.bit3B : RoundTrip.Statement .bit3B := fun _ _ => rfl
theorem RoundTrip.bit3C : RoundTrip.Statement .bit3C := fun _ _ => rfl
theorem RoundTrip.bit3D : RoundTrip.Statement .bit3D := fun _ _ => rfl
theorem RoundTrip.bit3E : RoundTrip.Statement .bit3E := fun _ _ => rfl
theorem RoundTrip.bit3H : RoundTrip.Statement .bit3H := fun _ _ => rfl
theorem RoundTrip.bit3L : RoundTrip.Statement .bit3L := fun _ _ => rfl
theorem RoundTrip.bit3Mem : RoundTrip.Statement .bit3Mem := fun _ _ => rfl
theorem RoundTrip.bit3A : RoundTrip.Statement .bit3A := fun _ _ => rfl
theorem RoundTrip.bit4B : RoundTrip.Statement .bit4B := fun _ _ => rfl
theorem RoundTrip.bit4C : RoundTrip.Statement .bit4C := fun _ _ => rfl
theorem RoundTrip.bit4D : RoundTrip.Statement .bit4D := fun _ _ => rfl
theorem RoundTrip.bit4E : RoundTrip.Statement .bit4E := fun _ _ => rfl
theorem RoundTrip.bit4H : RoundTrip.Statement .bit4H := fun _ _ => rfl
theorem RoundTrip.bit4L : RoundTrip.Statement .bit4L := fun _ _ => rfl
theorem RoundTrip.bit4Mem : RoundTrip.Statement .bit4Mem := fun _ _ => rfl
theorem RoundTrip.bit4A : RoundTrip.Statement .bit4A := fun _ _ => rfl
theorem RoundTrip.bit5B : RoundTrip.Statement .bit5B := fun _ _ => rfl
theorem RoundTrip.bit5C : RoundTrip.Statement .bit5C := fun _ _ => rfl
theorem RoundTrip.bit5D : RoundTrip.Statement .bit5D := fun _ _ => rfl
theorem RoundTrip.bit5E : RoundTrip.Statement .bit5E := fun _ _ => rfl
theorem RoundTrip.bit5H : RoundTrip.Statement .bit5H := fun _ _ => rfl
theorem RoundTrip.bit5L : RoundTrip.Statement .bit5L := fun _ _ => rfl
theorem RoundTrip.bit5Mem : RoundTrip.Statement .bit5Mem := fun _ _ => rfl
theorem RoundTrip.bit5A : RoundTrip.Statement .bit5A := fun _ _ => rfl
theorem RoundTrip.bit6B : RoundTrip.Statement .bit6B := fun _ _ => rfl
theorem RoundTrip.bit6C : RoundTrip.Statement .bit6C := fun _ _ => rfl
theorem RoundTrip.bit6D : RoundTrip.Statement .bit6D := fun _ _ => rfl
theorem RoundTrip.bit6E : RoundTrip.Statement .bit6E := fun _ _ => rfl
theorem RoundTrip.bit6H : RoundTrip.Statement .bit6H := fun _ _ => rfl
theorem RoundTrip.bit6L : RoundTrip.Statement .bit6L := fun _ _ => rfl
theorem RoundTrip.bit6Mem : RoundTrip.Statement .bit6Mem := fun _ _ => rfl
theorem RoundTrip.bit6A : RoundTrip.Statement .bit6A := fun _ _ => rfl
theorem RoundTrip.bit7B : RoundTrip.Statement .bit7B := fun _ _ => rfl
theorem RoundTrip.bit7C : RoundTrip.Statement .bit7C := fun _ _ => rfl
theorem RoundTrip.bit7D : RoundTrip.Statement .bit7D := fun _ _ => rfl
theorem RoundTrip.bit7E : RoundTrip.Statement .bit7E := fun _ _ => rfl
theorem RoundTrip.bit7H : RoundTrip.Statement .bit7H := fun _ _ => rfl
theorem RoundTrip.bit7L : RoundTrip.Statement .bit7L := fun _ _ => rfl
theorem RoundTrip.bit7Mem : RoundTrip.Statement .bit7Mem := fun _ _ => rfl
theorem RoundTrip.bit7A : RoundTrip.Statement .bit7A := fun _ _ => rfl
theorem RoundTrip.res0B : RoundTrip.Statement .res0B := fun _ _ => rfl
theorem RoundTrip.res0C : RoundTrip.Statement .res0C := fun _ _ => rfl
theorem RoundTrip.res0D : RoundTrip.Statement .res0D := fun _ _ => rfl
theorem RoundTrip.res0E : RoundTrip.Statement .res0E := fun _ _ => rfl
theorem RoundTrip.res0H : RoundTrip.Statement .res0H := fun _ _ => rfl
theorem RoundTrip.res0L : RoundTrip.Statement .res0L := fun _ _ => rfl
theorem RoundTrip.res0Mem : RoundTrip.Statement .res0Mem := fun _ _ => rfl
theorem RoundTrip.res0A : RoundTrip.Statement .res0A := fun _ _ => rfl
theorem RoundTrip.res1B : RoundTrip.Statement .res1B := fun _ _ => rfl
theorem RoundTrip.res1C : RoundTrip.Statement .res1C := fun _ _ => rfl
theorem RoundTrip.res1D : RoundTrip.Statement .res1D := fun _ _ => rfl
theorem RoundTrip.res1E : RoundTrip.Statement .res1E := fun _ _ => rfl
theorem RoundTrip.res1H : RoundTrip.Statement .res1H := fun _ _ => rfl
theorem RoundTrip.res1L : RoundTrip.Statement .res1L := fun _ _ => rfl
theorem RoundTrip.res1Mem : RoundTrip.Statement .res1Mem := fun _ _ => rfl
theorem RoundTrip.res1A : RoundTrip.Statement .res1A := fun _ _ => rfl
theorem RoundTrip.res2B : RoundTrip.Statement .res2B := fun _ _ => rfl
theorem RoundTrip.res2C : RoundTrip.Statement .res2C := fun _ _ => rfl
theorem RoundTrip.res2D : RoundTrip.Statement .res2D := fun _ _ => rfl
theorem RoundTrip.res2E : RoundTrip.Statement .res2E := fun _ _ => rfl
theorem RoundTrip.res2H : RoundTrip.Statement .res2H := fun _ _ => rfl
theorem RoundTrip.res2L : RoundTrip.Statement .res2L := fun _ _ => rfl
theorem RoundTrip.res2Mem : RoundTrip.Statement .res2Mem := fun _ _ => rfl
theorem RoundTrip.res2A : RoundTrip.Statement .res2A := fun _ _ => rfl
theorem RoundTrip.res3B : RoundTrip.Statement .res3B := fun _ _ => rfl
theorem RoundTrip.res3C : RoundTrip.Statement .res3C := fun _ _ => rfl
theorem RoundTrip.res3D : RoundTrip.Statement .res3D := fun _ _ => rfl
theorem RoundTrip.res3E : RoundTrip.Statement .res3E := fun _ _ => rfl
theorem RoundTrip.res3H : RoundTrip.Statement .res3H := fun _ _ => rfl
theorem RoundTrip.res3L : RoundTrip.Statement .res3L := fun _ _ => rfl
theorem RoundTrip.res3Mem : RoundTrip.Statement .res3Mem := fun _ _ => rfl
theorem RoundTrip.res3A : RoundTrip.Statement .res3A := fun _ _ => rfl
theorem RoundTrip.res4B : RoundTrip.Statement .res4B := fun _ _ => rfl
theorem RoundTrip.res4C : RoundTrip.Statement .res4C := fun _ _ => rfl
theorem RoundTrip.res4D : RoundTrip.Statement .res4D := fun _ _ => rfl
theorem RoundTrip.res4E : RoundTrip.Statement .res4E := fun _ _ => rfl
theorem RoundTrip.res4H : RoundTrip.Statement .res4H := fun _ _ => rfl
theorem RoundTrip.res4L : RoundTrip.Statement .res4L := fun _ _ => rfl
theorem RoundTrip.res4Mem : RoundTrip.Statement .res4Mem := fun _ _ => rfl
theorem RoundTrip.res4A : RoundTrip.Statement .res4A := fun _ _ => rfl
theorem RoundTrip.res5B : RoundTrip.Statement .res5B := fun _ _ => rfl
theorem RoundTrip.res5C : RoundTrip.Statement .res5C := fun _ _ => rfl
theorem RoundTrip.res5D : RoundTrip.Statement .res5D := fun _ _ => rfl
theorem RoundTrip.res5E : RoundTrip.Statement .res5E := fun _ _ => rfl
theorem RoundTrip.res5H : RoundTrip.Statement .res5H := fun _ _ => rfl
theorem RoundTrip.res5L : RoundTrip.Statement .res5L := fun _ _ => rfl
theorem RoundTrip.res5Mem : RoundTrip.Statement .res5Mem := fun _ _ => rfl
theorem RoundTrip.res5A : RoundTrip.Statement .res5A := fun _ _ => rfl
theorem RoundTrip.res6B : RoundTrip.Statement .res6B := fun _ _ => rfl
theorem RoundTrip.res6C : RoundTrip.Statement .res6C := fun _ _ => rfl
theorem RoundTrip.res6D : RoundTrip.Statement .res6D := fun _ _ => rfl
theorem RoundTrip.res6E : RoundTrip.Statement .res6E := fun _ _ => rfl
theorem RoundTrip.res6H : RoundTrip.Statement .res6H := fun _ _ => rfl
theorem RoundTrip.res6L : RoundTrip.Statement .res6L := fun _ _ => rfl
theorem RoundTrip.res6Mem : RoundTrip.Statement .res6Mem := fun _ _ => rfl
theorem RoundTrip.res6A : RoundTrip.Statement .res6A := fun _ _ => rfl
theorem RoundTrip.res7B : RoundTrip.Statement .res7B := fun _ _ => rfl
theorem RoundTrip.res7C : RoundTrip.Statement .res7C := fun _ _ => rfl
theorem RoundTrip.res7D : RoundTrip.Statement .res7D := fun _ _ => rfl
theorem RoundTrip.res7E : RoundTrip.Statement .res7E := fun _ _ => rfl
theorem RoundTrip.res7H : RoundTrip.Statement .res7H := fun _ _ => rfl
theorem RoundTrip.res7L : RoundTrip.Statement .res7L := fun _ _ => rfl
theorem RoundTrip.res7Mem : RoundTrip.Statement .res7Mem := fun _ _ => rfl
theorem RoundTrip.res7A : RoundTrip.Statement .res7A := fun _ _ => rfl
theorem RoundTrip.set0B : RoundTrip.Statement .set0B := fun _ _ => rfl
theorem RoundTrip.set0C : RoundTrip.Statement .set0C := fun _ _ => rfl
theorem RoundTrip.set0D : RoundTrip.Statement .set0D := fun _ _ => rfl
theorem RoundTrip.set0E : RoundTrip.Statement .set0E := fun _ _ => rfl
theorem RoundTrip.set0H : RoundTrip.Statement .set0H := fun _ _ => rfl
theorem RoundTrip.set0L : RoundTrip.Statement .set0L := fun _ _ => rfl
theorem RoundTrip.set0Mem : RoundTrip.Statement .set0Mem := fun _ _ => rfl
theorem RoundTrip.set0A : RoundTrip.Statement .set0A := fun _ _ => rfl
theorem RoundTrip.set1B : RoundTrip.Statement .set1B := fun _ _ => rfl
theorem RoundTrip.set1C : RoundTrip.Statement .set1C := fun _ _ => rfl
theorem RoundTrip.set1D : RoundTrip.Statement .set1D := fun _ _ => rfl
theorem RoundTrip.set1E : RoundTrip.Statement .set1E := fun _ _ => rfl
theorem RoundTrip.set1H : RoundTrip.Statement .set1H := fun _ _ => rfl
theorem RoundTrip.set1L : RoundTrip.Statement .set1L := fun _ _ => rfl
theorem RoundTrip.set1Mem : RoundTrip.Statement .set1Mem := fun _ _ => rfl
theorem RoundTrip.set1A : RoundTrip.Statement .set1A := fun _ _ => rfl
theorem RoundTrip.set2B : RoundTrip.Statement .set2B := fun _ _ => rfl
theorem RoundTrip.set2C : RoundTrip.Statement .set2C := fun _ _ => rfl
theorem RoundTrip.set2D : RoundTrip.Statement .set2D := fun _ _ => rfl
theorem RoundTrip.set2E : RoundTrip.Statement .set2E := fun _ _ => rfl
theorem RoundTrip.set2H : RoundTrip.Statement .set2H := fun _ _ => rfl
theorem RoundTrip.set2L : RoundTrip.Statement .set2L := fun _ _ => rfl
theorem RoundTrip.set2Mem : RoundTrip.Statement .set2Mem := fun _ _ => rfl
theorem RoundTrip.set2A : RoundTrip.Statement .set2A := fun _ _ => rfl
theorem RoundTrip.set3B : RoundTrip.Statement .set3B := fun _ _ => rfl
theorem RoundTrip.set3C : RoundTrip.Statement .set3C := fun _ _ => rfl
theorem RoundTrip.set3D : RoundTrip.Statement .set3D := fun _ _ => rfl
theorem RoundTrip.set3E : RoundTrip.Statement .set3E := fun _ _ => rfl
theorem RoundTrip.set3H : RoundTrip.Statement .set3H := fun _ _ => rfl
theorem RoundTrip.set3L : RoundTrip.Statement .set3L := fun _ _ => rfl
theorem RoundTrip.set3Mem : RoundTrip.Statement .set3Mem := fun _ _ => rfl
theorem RoundTrip.set3A : RoundTrip.Statement .set3A := fun _ _ => rfl
theorem RoundTrip.set4B : RoundTrip.Statement .set4B := fun _ _ => rfl
theorem RoundTrip.set4C : RoundTrip.Statement .set4C := fun _ _ => rfl
theorem RoundTrip.set4D : RoundTrip.Statement .set4D := fun _ _ => rfl
theorem RoundTrip.set4E : RoundTrip.Statement .set4E := fun _ _ => rfl
theorem RoundTrip.set4H : RoundTrip.Statement .set4H := fun _ _ => rfl
theorem RoundTrip.set4L : RoundTrip.Statement .set4L := fun _ _ => rfl
theorem RoundTrip.set4Mem : RoundTrip.Statement .set4Mem := fun _ _ => rfl
theorem RoundTrip.set4A : RoundTrip.Statement .set4A := fun _ _ => rfl
theorem RoundTrip.set5B : RoundTrip.Statement .set5B := fun _ _ => rfl
theorem RoundTrip.set5C : RoundTrip.Statement .set5C := fun _ _ => rfl
theorem RoundTrip.set5D : RoundTrip.Statement .set5D := fun _ _ => rfl
theorem RoundTrip.set5E : RoundTrip.Statement .set5E := fun _ _ => rfl
theorem RoundTrip.set5H : RoundTrip.Statement .set5H := fun _ _ => rfl
theorem RoundTrip.set5L : RoundTrip.Statement .set5L := fun _ _ => rfl
theorem RoundTrip.set5Mem : RoundTrip.Statement .set5Mem := fun _ _ => rfl
theorem RoundTrip.set5A : RoundTrip.Statement .set5A := fun _ _ => rfl
theorem RoundTrip.set6B : RoundTrip.Statement .set6B := fun _ _ => rfl
theorem RoundTrip.set6C : RoundTrip.Statement .set6C := fun _ _ => rfl
theorem RoundTrip.set6D : RoundTrip.Statement .set6D := fun _ _ => rfl
theorem RoundTrip.set6E : RoundTrip.Statement .set6E := fun _ _ => rfl
theorem RoundTrip.set6H : RoundTrip.Statement .set6H := fun _ _ => rfl
theorem RoundTrip.set6L : RoundTrip.Statement .set6L := fun _ _ => rfl
theorem RoundTrip.set6Mem : RoundTrip.Statement .set6Mem := fun _ _ => rfl
theorem RoundTrip.set6A : RoundTrip.Statement .set6A := fun _ _ => rfl
theorem RoundTrip.set7B : RoundTrip.Statement .set7B := fun _ _ => rfl
theorem RoundTrip.set7C : RoundTrip.Statement .set7C := fun _ _ => rfl
theorem RoundTrip.set7D : RoundTrip.Statement .set7D := fun _ _ => rfl
theorem RoundTrip.set7E : RoundTrip.Statement .set7E := fun _ _ => rfl
theorem RoundTrip.set7H : RoundTrip.Statement .set7H := fun _ _ => rfl
theorem RoundTrip.set7L : RoundTrip.Statement .set7L := fun _ _ => rfl
theorem RoundTrip.set7Mem : RoundTrip.Statement .set7Mem := fun _ _ => rfl
theorem RoundTrip.set7A : RoundTrip.Statement .set7A := fun _ _ => rfl

end Sys2Proof.Laws
end

