-- ==== Sys2Proof/Tests/Slice0.lean ====
section
/-! SUPPORT. The model's own tests. The expected results come from spec/: the opcode maps R99 and R100,
and the vectors of 95_test_vectors.md, which each test names. The `test_witness_…` theorems show
states and operands that meet the hypotheses of the obligation they are named after. -/

namespace Sys2Proof.Machine

/-! ### States for tests -/

/-- PC = 0x0100 on a FlatBus with these bytes; everything else zero (95_test_vectors.md,
conventions). -/
def onFlat (mem : Memory) : State := { State.reset with pc := 0x0100, bus := Bus.flat mem }

/-- A boot image with these bytes and zeros. -/
def imageOf (cells : Memory) : Vector Byte 256 :=
  cells.foldl (fun image x => if h : x.1 < 256 then image.set x.1 x.2 h else image) (Vector.replicate 256 0)

/-- A minimal reference bus (R73): the control register at 0xFF50, unmapped by writing 1. -/
def minimalBus (cells : Memory) : Bus := Bus.minimal (imageOf cells) 0xFF50 [1]

/-- A bus with one read-only address. -/
def romBus (a : Word) : Bus :=
  { Bus.flat [] with policy := { bootCtrl := none, unmapValues := [], regions := [⟨a.toNat, 1, .readOnly⟩] } }

/-- A bus with one external address. -/
def externalBus (a : Word) : Bus :=
  { Bus.flat [] with policy := { bootCtrl := none, unmapValues := [], regions := [⟨a.toNat, 1, .external⟩] } }

/-- PC = `pc` on that minimal bus. -/
def onMinimal (pc : Word) (cells : Memory) : State := { State.reset with pc := pc, bus := minimalBus cells }

/-- The next state of one step, if there is one. -/
def ran (s : State) : Option State :=
  match step s with
  | .next t => some t
  | _ => none

/-- The next state of one instruction, if there is one. -/
def done (i : Instr) (s : State) : Option State :=
  match exec i s with
  | .next t => some t
  | _ => none

/-! ### Well-formedness: the one check of `Instr.wf` -/

/-- R103, R107: 0xCB 0x00 is RLC B, so the escape with sub-opcode 0x00 is no instruction of its own. -/
theorem test_wf_refuses_escape_of_a_row : ¬WellFormed (.cbPrefix 0x00) := by decide

/-- R101: the bounds of the sub-opcodes without a row. -/
theorem test_wf_escape_bounds :
    ¬WellFormed (.cbPrefix 0x1F) ∧ WellFormed (.cbPrefix 0x20) ∧ WellFormed (.cbPrefix 0x3F) ∧
      ¬WellFormed (.cbPrefix 0x40) := by decide

/-! ### Decoding: every word of the opcode maps -/

/-- R99, row 0x. -/
theorem test_decode_primary_row_0x :
    decode [0x00#8] = .ok (.nop, []) ∧
    decode [0x01#8, 0x34, 0x12] = .ok (.ldBcD16 0x1234, []) ∧
    decode [0x06#8, 0x5A] = .ok (.ldBD8 0x5A, []) ∧
    decode [0x0E#8, 0x5A] = .ok (.ldCD8 0x5A, []) :=
  ⟨rfl, rfl, rfl, rfl⟩

/-- R99, row 1x. -/
theorem test_decode_primary_row_1x :
    decode [0x11#8, 0x34, 0x12] = .ok (.ldDeD16 0x1234, []) ∧
    decode [0x16#8, 0x5A] = .ok (.ldDD8 0x5A, []) ∧
    decode [0x1E#8, 0x5A] = .ok (.ldED8 0x5A, []) :=
  ⟨rfl, rfl, rfl⟩

/-- R99, row 2x. -/
theorem test_decode_primary_row_2x :
    decode [0x20#8, 0xFB] = .ok (.jrNzE8 0xFB, []) ∧
    decode [0x21#8, 0x34, 0x12] = .ok (.ldHlD16 0x1234, []) ∧
    decode [0x22#8] = .ok (.ldHlIncA, []) ∧
    decode [0x26#8, 0x5A] = .ok (.ldHD8 0x5A, []) ∧
    decode [0x2E#8, 0x5A] = .ok (.ldLD8 0x5A, []) :=
  ⟨rfl, rfl, rfl, rfl, rfl⟩

/-- R99, row 3x. -/
theorem test_decode_primary_row_3x :
    decode [0x31#8, 0x34, 0x12] = .ok (.ldSpD16 0x1234, []) ∧
    decode [0x32#8] = .ok (.ldHlDecA, []) ∧
    decode [0x36#8, 0x5A] = .ok (.ldMemD8 0x5A, []) ∧
    decode [0x3E#8, 0x5A] = .ok (.ldAD8 0x5A, []) :=
  ⟨rfl, rfl, rfl, rfl⟩

/-- R99, row 4x. -/
theorem test_decode_primary_row_4x :
    decode [0x40#8] = .ok (.ldBB, []) ∧
    decode [0x41#8] = .ok (.ldBC, []) ∧
    decode [0x42#8] = .ok (.ldBD, []) ∧
    decode [0x43#8] = .ok (.ldBE, []) ∧
    decode [0x44#8] = .ok (.ldBH, []) ∧
    decode [0x45#8] = .ok (.ldBL, []) ∧
    decode [0x46#8] = .ok (.ldBMem, []) ∧
    decode [0x47#8] = .ok (.ldBA, []) ∧
    decode [0x48#8] = .ok (.ldCB, []) ∧
    decode [0x49#8] = .ok (.ldCC, []) ∧
    decode [0x4A#8] = .ok (.ldCD, []) ∧
    decode [0x4B#8] = .ok (.ldCE, []) ∧
    decode [0x4C#8] = .ok (.ldCH, []) ∧
    decode [0x4D#8] = .ok (.ldCL, []) ∧
    decode [0x4E#8] = .ok (.ldCMem, []) ∧
    decode [0x4F#8] = .ok (.ldCA, []) :=
  ⟨rfl, rfl, rfl, rfl, rfl, rfl, rfl, rfl, rfl, rfl, rfl, rfl, rfl, rfl, rfl, rfl⟩

/-- R99, row 5x. -/
theorem test_decode_primary_row_5x :
    decode [0x50#8] = .ok (.ldDB, []) ∧
    decode [0x51#8] = .ok (.ldDC, []) ∧
    decode [0x52#8] = .ok (.ldDD, []) ∧
    decode [0x53#8] = .ok (.ldDE, []) ∧
    decode [0x54#8] = .ok (.ldDH, []) ∧
    decode [0x55#8] = .ok (.ldDL, []) ∧
    decode [0x56#8] = .ok (.ldDMem, []) ∧
    decode [0x57#8] = .ok (.ldDA, []) ∧
    decode [0x58#8] = .ok (.ldEB, []) ∧
    decode [0x59#8] = .ok (.ldEC, []) ∧
    decode [0x5A#8] = .ok (.ldED, []) ∧
    decode [0x5B#8] = .ok (.ldEE, []) ∧
    decode [0x5C#8] = .ok (.ldEH, []) ∧
    decode [0x5D#8] = .ok (.ldEL, []) ∧
    decode [0x5E#8] = .ok (.ldEMem, []) ∧
    decode [0x5F#8] = .ok (.ldEA, []) :=
  ⟨rfl, rfl, rfl, rfl, rfl, rfl, rfl, rfl, rfl, rfl, rfl, rfl, rfl, rfl, rfl, rfl⟩

/-- R99, row 6x. -/
theorem test_decode_primary_row_6x :
    decode [0x60#8] = .ok (.ldHB, []) ∧
    decode [0x61#8] = .ok (.ldHC, []) ∧
    decode [0x62#8] = .ok (.ldHD, []) ∧
    decode [0x63#8] = .ok (.ldHE, []) ∧
    decode [0x64#8] = .ok (.ldHH, []) ∧
    decode [0x65#8] = .ok (.ldHL, []) ∧
    decode [0x66#8] = .ok (.ldHMem, []) ∧
    decode [0x67#8] = .ok (.ldHA, []) ∧
    decode [0x68#8] = .ok (.ldLB, []) ∧
    decode [0x69#8] = .ok (.ldLC, []) ∧
    decode [0x6A#8] = .ok (.ldLD, []) ∧
    decode [0x6B#8] = .ok (.ldLE, []) ∧
    decode [0x6C#8] = .ok (.ldLH, []) ∧
    decode [0x6D#8] = .ok (.ldLL, []) ∧
    decode [0x6E#8] = .ok (.ldLMem, []) ∧
    decode [0x6F#8] = .ok (.ldLA, []) :=
  ⟨rfl, rfl, rfl, rfl, rfl, rfl, rfl, rfl, rfl, rfl, rfl, rfl, rfl, rfl, rfl, rfl⟩

/-- R99, row 7x. -/
theorem test_decode_primary_row_7x :
    decode [0x70#8] = .ok (.ldMemB, []) ∧
    decode [0x71#8] = .ok (.ldMemC, []) ∧
    decode [0x72#8] = .ok (.ldMemD, []) ∧
    decode [0x73#8] = .ok (.ldMemE, []) ∧
    decode [0x74#8] = .ok (.ldMemH, []) ∧
    decode [0x75#8] = .ok (.ldMemL, []) ∧
    decode [0x77#8] = .ok (.ldMemA, []) ∧
    decode [0x78#8] = .ok (.ldAB, []) ∧
    decode [0x79#8] = .ok (.ldAC, []) ∧
    decode [0x7A#8] = .ok (.ldAD, []) ∧
    decode [0x7B#8] = .ok (.ldAE, []) ∧
    decode [0x7C#8] = .ok (.ldAH, []) ∧
    decode [0x7D#8] = .ok (.ldAL, []) ∧
    decode [0x7E#8] = .ok (.ldAMem, []) ∧
    decode [0x7F#8] = .ok (.ldAA, []) :=
  ⟨rfl, rfl, rfl, rfl, rfl, rfl, rfl, rfl, rfl, rfl, rfl, rfl, rfl, rfl, rfl⟩

/-- R99, row Ax. -/
theorem test_decode_primary_row_Ax :
    decode [0xA8#8] = .ok (.xorB, []) ∧
    decode [0xA9#8] = .ok (.xorC, []) ∧
    decode [0xAA#8] = .ok (.xorD, []) ∧
    decode [0xAB#8] = .ok (.xorE, []) ∧
    decode [0xAC#8] = .ok (.xorH, []) ∧
    decode [0xAD#8] = .ok (.xorL, []) ∧
    decode [0xAF#8] = .ok (.xorA, []) :=
  ⟨rfl, rfl, rfl, rfl, rfl, rfl, rfl⟩

/-- R99, row Bx. -/
theorem test_decode_primary_row_Bx :
    decode [0xB0#8] = .ok (.orB, []) ∧
    decode [0xB1#8] = .ok (.orC, []) ∧
    decode [0xB2#8] = .ok (.orD, []) ∧
    decode [0xB3#8] = .ok (.orE, []) ∧
    decode [0xB4#8] = .ok (.orH, []) ∧
    decode [0xB5#8] = .ok (.orL, []) ∧
    decode [0xB7#8] = .ok (.orA, []) :=
  ⟨rfl, rfl, rfl, rfl, rfl, rfl, rfl⟩

/-- R100, row 0x. -/
theorem test_decode_secondary_row_0x :
    decode [0xCB#8, 0x00] = .ok (.rlcB, []) ∧
    decode [0xCB#8, 0x01] = .ok (.rlcC, []) ∧
    decode [0xCB#8, 0x02] = .ok (.rlcD, []) ∧
    decode [0xCB#8, 0x03] = .ok (.rlcE, []) ∧
    decode [0xCB#8, 0x04] = .ok (.rlcH, []) ∧
    decode [0xCB#8, 0x05] = .ok (.rlcL, []) ∧
    decode [0xCB#8, 0x06] = .ok (.rlcMem, []) ∧
    decode [0xCB#8, 0x07] = .ok (.rlcA, []) ∧
    decode [0xCB#8, 0x08] = .ok (.rrcB, []) ∧
    decode [0xCB#8, 0x09] = .ok (.rrcC, []) ∧
    decode [0xCB#8, 0x0A] = .ok (.rrcD, []) ∧
    decode [0xCB#8, 0x0B] = .ok (.rrcE, []) ∧
    decode [0xCB#8, 0x0C] = .ok (.rrcH, []) ∧
    decode [0xCB#8, 0x0D] = .ok (.rrcL, []) ∧
    decode [0xCB#8, 0x0E] = .ok (.rrcMem, []) ∧
    decode [0xCB#8, 0x0F] = .ok (.rrcA, []) :=
  ⟨rfl, rfl, rfl, rfl, rfl, rfl, rfl, rfl, rfl, rfl, rfl, rfl, rfl, rfl, rfl, rfl⟩

/-- R100, row 1x. -/
theorem test_decode_secondary_row_1x :
    decode [0xCB#8, 0x10] = .ok (.rlB, []) ∧
    decode [0xCB#8, 0x11] = .ok (.rlC, []) ∧
    decode [0xCB#8, 0x12] = .ok (.rlD, []) ∧
    decode [0xCB#8, 0x13] = .ok (.rlE, []) ∧
    decode [0xCB#8, 0x14] = .ok (.rlH, []) ∧
    decode [0xCB#8, 0x15] = .ok (.rlL, []) ∧
    decode [0xCB#8, 0x16] = .ok (.rlMem, []) ∧
    decode [0xCB#8, 0x17] = .ok (.rlA, []) ∧
    decode [0xCB#8, 0x18] = .ok (.rrB, []) ∧
    decode [0xCB#8, 0x19] = .ok (.rrC, []) ∧
    decode [0xCB#8, 0x1A] = .ok (.rrD, []) ∧
    decode [0xCB#8, 0x1B] = .ok (.rrE, []) ∧
    decode [0xCB#8, 0x1C] = .ok (.rrH, []) ∧
    decode [0xCB#8, 0x1D] = .ok (.rrL, []) ∧
    decode [0xCB#8, 0x1E] = .ok (.rrMem, []) ∧
    decode [0xCB#8, 0x1F] = .ok (.rrA, []) :=
  ⟨rfl, rfl, rfl, rfl, rfl, rfl, rfl, rfl, rfl, rfl, rfl, rfl, rfl, rfl, rfl, rfl⟩

/-- R100, row 4x. -/
theorem test_decode_secondary_row_4x :
    decode [0xCB#8, 0x40] = .ok (.bit0B, []) ∧
    decode [0xCB#8, 0x41] = .ok (.bit0C, []) ∧
    decode [0xCB#8, 0x42] = .ok (.bit0D, []) ∧
    decode [0xCB#8, 0x43] = .ok (.bit0E, []) ∧
    decode [0xCB#8, 0x44] = .ok (.bit0H, []) ∧
    decode [0xCB#8, 0x45] = .ok (.bit0L, []) ∧
    decode [0xCB#8, 0x46] = .ok (.bit0Mem, []) ∧
    decode [0xCB#8, 0x47] = .ok (.bit0A, []) ∧
    decode [0xCB#8, 0x48] = .ok (.bit1B, []) ∧
    decode [0xCB#8, 0x49] = .ok (.bit1C, []) ∧
    decode [0xCB#8, 0x4A] = .ok (.bit1D, []) ∧
    decode [0xCB#8, 0x4B] = .ok (.bit1E, []) ∧
    decode [0xCB#8, 0x4C] = .ok (.bit1H, []) ∧
    decode [0xCB#8, 0x4D] = .ok (.bit1L, []) ∧
    decode [0xCB#8, 0x4E] = .ok (.bit1Mem, []) ∧
    decode [0xCB#8, 0x4F] = .ok (.bit1A, []) :=
  ⟨rfl, rfl, rfl, rfl, rfl, rfl, rfl, rfl, rfl, rfl, rfl, rfl, rfl, rfl, rfl, rfl⟩

/-- R100, row 5x. -/
theorem test_decode_secondary_row_5x :
    decode [0xCB#8, 0x50] = .ok (.bit2B, []) ∧
    decode [0xCB#8, 0x51] = .ok (.bit2C, []) ∧
    decode [0xCB#8, 0x52] = .ok (.bit2D, []) ∧
    decode [0xCB#8, 0x53] = .ok (.bit2E, []) ∧
    decode [0xCB#8, 0x54] = .ok (.bit2H, []) ∧
    decode [0xCB#8, 0x55] = .ok (.bit2L, []) ∧
    decode [0xCB#8, 0x56] = .ok (.bit2Mem, []) ∧
    decode [0xCB#8, 0x57] = .ok (.bit2A, []) ∧
    decode [0xCB#8, 0x58] = .ok (.bit3B, []) ∧
    decode [0xCB#8, 0x59] = .ok (.bit3C, []) ∧
    decode [0xCB#8, 0x5A] = .ok (.bit3D, []) ∧
    decode [0xCB#8, 0x5B] = .ok (.bit3E, []) ∧
    decode [0xCB#8, 0x5C] = .ok (.bit3H, []) ∧
    decode [0xCB#8, 0x5D] = .ok (.bit3L, []) ∧
    decode [0xCB#8, 0x5E] = .ok (.bit3Mem, []) ∧
    decode [0xCB#8, 0x5F] = .ok (.bit3A, []) :=
  ⟨rfl, rfl, rfl, rfl, rfl, rfl, rfl, rfl, rfl, rfl, rfl, rfl, rfl, rfl, rfl, rfl⟩

/-- R100, row 6x. -/
theorem test_decode_secondary_row_6x :
    decode [0xCB#8, 0x60] = .ok (.bit4B, []) ∧
    decode [0xCB#8, 0x61] = .ok (.bit4C, []) ∧
    decode [0xCB#8, 0x62] = .ok (.bit4D, []) ∧
    decode [0xCB#8, 0x63] = .ok (.bit4E, []) ∧
    decode [0xCB#8, 0x64] = .ok (.bit4H, []) ∧
    decode [0xCB#8, 0x65] = .ok (.bit4L, []) ∧
    decode [0xCB#8, 0x66] = .ok (.bit4Mem, []) ∧
    decode [0xCB#8, 0x67] = .ok (.bit4A, []) ∧
    decode [0xCB#8, 0x68] = .ok (.bit5B, []) ∧
    decode [0xCB#8, 0x69] = .ok (.bit5C, []) ∧
    decode [0xCB#8, 0x6A] = .ok (.bit5D, []) ∧
    decode [0xCB#8, 0x6B] = .ok (.bit5E, []) ∧
    decode [0xCB#8, 0x6C] = .ok (.bit5H, []) ∧
    decode [0xCB#8, 0x6D] = .ok (.bit5L, []) ∧
    decode [0xCB#8, 0x6E] = .ok (.bit5Mem, []) ∧
    decode [0xCB#8, 0x6F] = .ok (.bit5A, []) :=
  ⟨rfl, rfl, rfl, rfl, rfl, rfl, rfl, rfl, rfl, rfl, rfl, rfl, rfl, rfl, rfl, rfl⟩

/-- R100, row 7x. -/
theorem test_decode_secondary_row_7x :
    decode [0xCB#8, 0x70] = .ok (.bit6B, []) ∧
    decode [0xCB#8, 0x71] = .ok (.bit6C, []) ∧
    decode [0xCB#8, 0x72] = .ok (.bit6D, []) ∧
    decode [0xCB#8, 0x73] = .ok (.bit6E, []) ∧
    decode [0xCB#8, 0x74] = .ok (.bit6H, []) ∧
    decode [0xCB#8, 0x75] = .ok (.bit6L, []) ∧
    decode [0xCB#8, 0x76] = .ok (.bit6Mem, []) ∧
    decode [0xCB#8, 0x77] = .ok (.bit6A, []) ∧
    decode [0xCB#8, 0x78] = .ok (.bit7B, []) ∧
    decode [0xCB#8, 0x79] = .ok (.bit7C, []) ∧
    decode [0xCB#8, 0x7A] = .ok (.bit7D, []) ∧
    decode [0xCB#8, 0x7B] = .ok (.bit7E, []) ∧
    decode [0xCB#8, 0x7C] = .ok (.bit7H, []) ∧
    decode [0xCB#8, 0x7D] = .ok (.bit7L, []) ∧
    decode [0xCB#8, 0x7E] = .ok (.bit7Mem, []) ∧
    decode [0xCB#8, 0x7F] = .ok (.bit7A, []) :=
  ⟨rfl, rfl, rfl, rfl, rfl, rfl, rfl, rfl, rfl, rfl, rfl, rfl, rfl, rfl, rfl, rfl⟩

/-- R100, row 8x. -/
theorem test_decode_secondary_row_8x :
    decode [0xCB#8, 0x80] = .ok (.res0B, []) ∧
    decode [0xCB#8, 0x81] = .ok (.res0C, []) ∧
    decode [0xCB#8, 0x82] = .ok (.res0D, []) ∧
    decode [0xCB#8, 0x83] = .ok (.res0E, []) ∧
    decode [0xCB#8, 0x84] = .ok (.res0H, []) ∧
    decode [0xCB#8, 0x85] = .ok (.res0L, []) ∧
    decode [0xCB#8, 0x86] = .ok (.res0Mem, []) ∧
    decode [0xCB#8, 0x87] = .ok (.res0A, []) ∧
    decode [0xCB#8, 0x88] = .ok (.res1B, []) ∧
    decode [0xCB#8, 0x89] = .ok (.res1C, []) ∧
    decode [0xCB#8, 0x8A] = .ok (.res1D, []) ∧
    decode [0xCB#8, 0x8B] = .ok (.res1E, []) ∧
    decode [0xCB#8, 0x8C] = .ok (.res1H, []) ∧
    decode [0xCB#8, 0x8D] = .ok (.res1L, []) ∧
    decode [0xCB#8, 0x8E] = .ok (.res1Mem, []) ∧
    decode [0xCB#8, 0x8F] = .ok (.res1A, []) :=
  ⟨rfl, rfl, rfl, rfl, rfl, rfl, rfl, rfl, rfl, rfl, rfl, rfl, rfl, rfl, rfl, rfl⟩

/-- R100, row 9x. -/
theorem test_decode_secondary_row_9x :
    decode [0xCB#8, 0x90] = .ok (.res2B, []) ∧
    decode [0xCB#8, 0x91] = .ok (.res2C, []) ∧
    decode [0xCB#8, 0x92] = .ok (.res2D, []) ∧
    decode [0xCB#8, 0x93] = .ok (.res2E, []) ∧
    decode [0xCB#8, 0x94] = .ok (.res2H, []) ∧
    decode [0xCB#8, 0x95] = .ok (.res2L, []) ∧
    decode [0xCB#8, 0x96] = .ok (.res2Mem, []) ∧
    decode [0xCB#8, 0x97] = .ok (.res2A, []) ∧
    decode [0xCB#8, 0x98] = .ok (.res3B, []) ∧
    decode [0xCB#8, 0x99] = .ok (.res3C, []) ∧
    decode [0xCB#8, 0x9A] = .ok (.res3D, []) ∧
    decode [0xCB#8, 0x9B] = .ok (.res3E, []) ∧
    decode [0xCB#8, 0x9C] = .ok (.res3H, []) ∧
    decode [0xCB#8, 0x9D] = .ok (.res3L, []) ∧
    decode [0xCB#8, 0x9E] = .ok (.res3Mem, []) ∧
    decode [0xCB#8, 0x9F] = .ok (.res3A, []) :=
  ⟨rfl, rfl, rfl, rfl, rfl, rfl, rfl, rfl, rfl, rfl, rfl, rfl, rfl, rfl, rfl, rfl⟩

/-- R100, row Ax. -/
theorem test_decode_secondary_row_Ax :
    decode [0xCB#8, 0xA0] = .ok (.res4B, []) ∧
    decode [0xCB#8, 0xA1] = .ok (.res4C, []) ∧
    decode [0xCB#8, 0xA2] = .ok (.res4D, []) ∧
    decode [0xCB#8, 0xA3] = .ok (.res4E, []) ∧
    decode [0xCB#8, 0xA4] = .ok (.res4H, []) ∧
    decode [0xCB#8, 0xA5] = .ok (.res4L, []) ∧
    decode [0xCB#8, 0xA6] = .ok (.res4Mem, []) ∧
    decode [0xCB#8, 0xA7] = .ok (.res4A, []) ∧
    decode [0xCB#8, 0xA8] = .ok (.res5B, []) ∧
    decode [0xCB#8, 0xA9] = .ok (.res5C, []) ∧
    decode [0xCB#8, 0xAA] = .ok (.res5D, []) ∧
    decode [0xCB#8, 0xAB] = .ok (.res5E, []) ∧
    decode [0xCB#8, 0xAC] = .ok (.res5H, []) ∧
    decode [0xCB#8, 0xAD] = .ok (.res5L, []) ∧
    decode [0xCB#8, 0xAE] = .ok (.res5Mem, []) ∧
    decode [0xCB#8, 0xAF] = .ok (.res5A, []) :=
  ⟨rfl, rfl, rfl, rfl, rfl, rfl, rfl, rfl, rfl, rfl, rfl, rfl, rfl, rfl, rfl, rfl⟩

/-- R100, row Bx. -/
theorem test_decode_secondary_row_Bx :
    decode [0xCB#8, 0xB0] = .ok (.res6B, []) ∧
    decode [0xCB#8, 0xB1] = .ok (.res6C, []) ∧
    decode [0xCB#8, 0xB2] = .ok (.res6D, []) ∧
    decode [0xCB#8, 0xB3] = .ok (.res6E, []) ∧
    decode [0xCB#8, 0xB4] = .ok (.res6H, []) ∧
    decode [0xCB#8, 0xB5] = .ok (.res6L, []) ∧
    decode [0xCB#8, 0xB6] = .ok (.res6Mem, []) ∧
    decode [0xCB#8, 0xB7] = .ok (.res6A, []) ∧
    decode [0xCB#8, 0xB8] = .ok (.res7B, []) ∧
    decode [0xCB#8, 0xB9] = .ok (.res7C, []) ∧
    decode [0xCB#8, 0xBA] = .ok (.res7D, []) ∧
    decode [0xCB#8, 0xBB] = .ok (.res7E, []) ∧
    decode [0xCB#8, 0xBC] = .ok (.res7H, []) ∧
    decode [0xCB#8, 0xBD] = .ok (.res7L, []) ∧
    decode [0xCB#8, 0xBE] = .ok (.res7Mem, []) ∧
    decode [0xCB#8, 0xBF] = .ok (.res7A, []) :=
  ⟨rfl, rfl, rfl, rfl, rfl, rfl, rfl, rfl, rfl, rfl, rfl, rfl, rfl, rfl, rfl, rfl⟩

/-- R100, row Cx. -/
theorem test_decode_secondary_row_Cx :
    decode [0xCB#8, 0xC0] = .ok (.set0B, []) ∧
    decode [0xCB#8, 0xC1] = .ok (.set0C, []) ∧
    decode [0xCB#8, 0xC2] = .ok (.set0D, []) ∧
    decode [0xCB#8, 0xC3] = .ok (.set0E, []) ∧
    decode [0xCB#8, 0xC4] = .ok (.set0H, []) ∧
    decode [0xCB#8, 0xC5] = .ok (.set0L, []) ∧
    decode [0xCB#8, 0xC6] = .ok (.set0Mem, []) ∧
    decode [0xCB#8, 0xC7] = .ok (.set0A, []) ∧
    decode [0xCB#8, 0xC8] = .ok (.set1B, []) ∧
    decode [0xCB#8, 0xC9] = .ok (.set1C, []) ∧
    decode [0xCB#8, 0xCA] = .ok (.set1D, []) ∧
    decode [0xCB#8, 0xCB] = .ok (.set1E, []) ∧
    decode [0xCB#8, 0xCC] = .ok (.set1H, []) ∧
    decode [0xCB#8, 0xCD] = .ok (.set1L, []) ∧
    decode [0xCB#8, 0xCE] = .ok (.set1Mem, []) ∧
    decode [0xCB#8, 0xCF] = .ok (.set1A, []) :=
  ⟨rfl, rfl, rfl, rfl, rfl, rfl, rfl, rfl, rfl, rfl, rfl, rfl, rfl, rfl, rfl, rfl⟩

/-- R100, row Dx. -/
theorem test_decode_secondary_row_Dx :
    decode [0xCB#8, 0xD0] = .ok (.set2B, []) ∧
    decode [0xCB#8, 0xD1] = .ok (.set2C, []) ∧
    decode [0xCB#8, 0xD2] = .ok (.set2D, []) ∧
    decode [0xCB#8, 0xD3] = .ok (.set2E, []) ∧
    decode [0xCB#8, 0xD4] = .ok (.set2H, []) ∧
    decode [0xCB#8, 0xD5] = .ok (.set2L, []) ∧
    decode [0xCB#8, 0xD6] = .ok (.set2Mem, []) ∧
    decode [0xCB#8, 0xD7] = .ok (.set2A, []) ∧
    decode [0xCB#8, 0xD8] = .ok (.set3B, []) ∧
    decode [0xCB#8, 0xD9] = .ok (.set3C, []) ∧
    decode [0xCB#8, 0xDA] = .ok (.set3D, []) ∧
    decode [0xCB#8, 0xDB] = .ok (.set3E, []) ∧
    decode [0xCB#8, 0xDC] = .ok (.set3H, []) ∧
    decode [0xCB#8, 0xDD] = .ok (.set3L, []) ∧
    decode [0xCB#8, 0xDE] = .ok (.set3Mem, []) ∧
    decode [0xCB#8, 0xDF] = .ok (.set3A, []) :=
  ⟨rfl, rfl, rfl, rfl, rfl, rfl, rfl, rfl, rfl, rfl, rfl, rfl, rfl, rfl, rfl, rfl⟩

/-- R100, row Ex. -/
theorem test_decode_secondary_row_Ex :
    decode [0xCB#8, 0xE0] = .ok (.set4B, []) ∧
    decode [0xCB#8, 0xE1] = .ok (.set4C, []) ∧
    decode [0xCB#8, 0xE2] = .ok (.set4D, []) ∧
    decode [0xCB#8, 0xE3] = .ok (.set4E, []) ∧
    decode [0xCB#8, 0xE4] = .ok (.set4H, []) ∧
    decode [0xCB#8, 0xE5] = .ok (.set4L, []) ∧
    decode [0xCB#8, 0xE6] = .ok (.set4Mem, []) ∧
    decode [0xCB#8, 0xE7] = .ok (.set4A, []) ∧
    decode [0xCB#8, 0xE8] = .ok (.set5B, []) ∧
    decode [0xCB#8, 0xE9] = .ok (.set5C, []) ∧
    decode [0xCB#8, 0xEA] = .ok (.set5D, []) ∧
    decode [0xCB#8, 0xEB] = .ok (.set5E, []) ∧
    decode [0xCB#8, 0xEC] = .ok (.set5H, []) ∧
    decode [0xCB#8, 0xED] = .ok (.set5L, []) ∧
    decode [0xCB#8, 0xEE] = .ok (.set5Mem, []) ∧
    decode [0xCB#8, 0xEF] = .ok (.set5A, []) :=
  ⟨rfl, rfl, rfl, rfl, rfl, rfl, rfl, rfl, rfl, rfl, rfl, rfl, rfl, rfl, rfl, rfl⟩

/-- R100, row Fx. -/
theorem test_decode_secondary_row_Fx :
    decode [0xCB#8, 0xF0] = .ok (.set6B, []) ∧
    decode [0xCB#8, 0xF1] = .ok (.set6C, []) ∧
    decode [0xCB#8, 0xF2] = .ok (.set6D, []) ∧
    decode [0xCB#8, 0xF3] = .ok (.set6E, []) ∧
    decode [0xCB#8, 0xF4] = .ok (.set6H, []) ∧
    decode [0xCB#8, 0xF5] = .ok (.set6L, []) ∧
    decode [0xCB#8, 0xF6] = .ok (.set6Mem, []) ∧
    decode [0xCB#8, 0xF7] = .ok (.set6A, []) ∧
    decode [0xCB#8, 0xF8] = .ok (.set7B, []) ∧
    decode [0xCB#8, 0xF9] = .ok (.set7C, []) ∧
    decode [0xCB#8, 0xFA] = .ok (.set7D, []) ∧
    decode [0xCB#8, 0xFB] = .ok (.set7E, []) ∧
    decode [0xCB#8, 0xFC] = .ok (.set7H, []) ∧
    decode [0xCB#8, 0xFD] = .ok (.set7L, []) ∧
    decode [0xCB#8, 0xFE] = .ok (.set7Mem, []) ∧
    decode [0xCB#8, 0xFF] = .ok (.set7A, []) :=
  ⟨rfl, rfl, rfl, rfl, rfl, rfl, rfl, rfl, rfl, rfl, rfl, rfl, rfl, rfl, rfl, rfl⟩

/-- R103, R101: the escape with a sub-opcode of no row, at both bounds. -/
theorem test_decode_escape :
    decode [0xCB#8, 0x20] = .ok (.cbPrefix 0x20, []) ∧ decode [0xCB#8, 0x3F] = .ok (.cbPrefix 0x3F, []) :=
  ⟨rfl, rfl⟩

/-- R101, R102: every value of the rule's list is rejected, with its own byte; it lists 162. -/
theorem test_decode_rejects_unimplemented :
    unimplementedPrimaryValues.length = 162 ∧
    (unimplementedPrimaryValues.all fun op => (primary op).isNone) = true := by decide +kernel

/-- R90: bytes that end inside an instruction are no instruction. -/
theorem test_decode_rejects_truncated :
    decode [] = .error .truncated ∧ decode [0x06#8] = .error .truncated ∧
    decode [0x21#8, 0xFE] = .error .truncated ∧ decode [0xCB#8] = .error .truncated :=
  ⟨rfl, rfl, rfl, rfl⟩

/-- R97: displacements at the ends of their range. -/
theorem test_sign_extension : sext16 0x80 = 0xFF80 ∧ sext16 0x7F = 0x007F := by decide

/-- R107: words as the opcode table numbers them. -/
theorem test_decode_table_word :
    decodeTableWord 8 0x00 = some .nop ∧ decodeTableWord 8 0x21 = some (.ldHlD16 0) ∧
    decodeTableWord 16 0xCB7C = some .bit7H ∧ decodeTableWord 16 0xCBCB = some .set1E ∧
    decodeTableWord 8 0x76 = none :=
  ⟨rfl, rfl, rfl, rfl, rfl⟩

/-- The placed word is what the next step runs, right after reset (log 14). -/
theorem test_fetch_word_at_reset :
    (ran (State.reset.withFetchWord 8 0x21)).map (·.pc) = some 3 ∧
    (ran (State.reset.withFetchWord 16 0xCB07)).map (fun t => (t.pc, t.f)) = some (2, 0x80) :=
  ⟨rfl, rfl⟩

/-- R263: the same at an address outside the boot image, on a bus that did not back it. -/
theorem test_fetch_word_outside_the_image :
    (ran ((onMinimal 0x4000 []).withFetchWord 16 0xCB47)).map (fun t => (t.pc, t.f)) = some (0x4002, 0x20) := rfl

/-! ### One step: the vectors of 95_test_vectors.md -/

/-- L1.3. -/
theorem test_nop :
    (ran { onFlat [(0x0100, 0x00)] with cycles := 7 }).map (fun t => (t.pc, t.cycles)) =
      some (0x101, 0x0B) := rfl

/-- V1. -/
theorem test_nop_wraps_pc :
    (ran { onFlat [] with pc := 0xFFFF }).map (fun t => (t.pc, t.cycles)) =
      some (0, 4) := rfl

/-- L1.4. -/
theorem test_ldHlD16 :
    (ran (onFlat [(0x0100, 0x21), (0x0101, 0xFE), (0x0102, 0xEF)])).map (fun t => (t.h, t.l, t.pc, t.cycles)) =
      some (0xEF, 0xFE, 0x103, 0x0C) := rfl

/-- V2. -/
theorem test_ldHlD16_wraps :
    (ran { onFlat [(0x0000, 0x12), (0xFFFE, 0x21), (0xFFFF, 0x34)] with pc := 0xFFFE }).map (fun t => (t.h, t.l, t.pc)) =
      some (0x12, 0x34, 1) := rfl

/-- V3. -/
theorem test_ldBcD16 :
    (ran (onFlat [(0x0100, 0x01), (0x0101, 0xCD), (0x0102, 0xAB)])).map (fun t => (t.b, t.c, t.pc, t.cycles)) =
      some (0xAB, 0xCD, 0x103, 0x0C) := rfl

/-- V4. -/
theorem test_ldDeD16 :
    (ran (onFlat [(0x0100, 0x11), (0x0102, 0x80)])).map (fun t => (t.d, t.e, t.pc, t.cycles)) =
      some (0x80, 0, 0x103, 0x0C) := rfl

/-- V5. -/
theorem test_ldSpD16 :
    (ran (onFlat [(0x0100, 0x31), (0x0101, 0xFE), (0x0102, 0xFF)])).map (fun t => (t.sp, t.pc, t.cycles)) =
      some (0xFFFE, 0x103, 0x0C) := rfl

/-- V6: loads write no flag. -/
theorem test_ldAD8 :
    (ran { onFlat [(0x0100, 0x3E), (0x0101, 0xFF)] with f := 0xF0 }).map (fun t => (t.a, t.f, t.pc, t.cycles)) =
      some (0xFF, 0xF0, 0x102, 8) := rfl

/-- V7. -/
theorem test_ldLD8 :
    (ran { onFlat [(0x0100, 0x2E)] with h := 0x12, l := 0xFF }).map (fun t => (t.h, t.l, t.pc, t.cycles)) =
      some (0x12, 0, 0x102, 8) := rfl

/-- V8: the byte written is zero, so memory lists it no longer. -/
theorem test_ldMemD8 :
    (ran { onFlat [(0x0100, 0x36), (0xFFFF, 0x5A)] with h := 0xFF, l := 0xFF }).map (fun t => (t.bus.mem.read 0xFFFF, t.h, t.l, t.pc, t.cycles)) =
      some (0, 0xFF, 0xFF, 0x102, 0x0C) := rfl

/-- V9. -/
theorem test_ldAA :
    (ran { onFlat [(0x0100, 0x7F)] with a := 0x5A, f := 0xB0 }).map (fun t => (t.a, t.f, t.pc, t.cycles)) =
      some (0x5A, 0xB0, 0x101, 4) := rfl

/-- V10. -/
theorem test_ldBH :
    (ran { onFlat [(0x0100, 0x44)] with h := 0x12, l := 0x34 }).map (fun t => (t.b, t.h, t.l, t.cycles)) =
      some (0x12, 0x12, 0x34, 4) := rfl

/-- V11. -/
theorem test_ldLMem :
    (ran { onFlat [(0x0100, 0x6E), (0xC001, 0x77)] with h := 0xC0, l := 0x01 }).map (fun t => (t.l, t.h, t.pc, t.cycles)) =
      some (0x77, 0xC0, 0x101, 8) := rfl

/-- V12. -/
theorem test_ldMemL :
    (ran { onFlat [(0x0100, 0x75)] with h := 0xC0, l := 0xDE }).map (fun t => (t.bus.mem.read 0xC0DE, t.pc, t.cycles)) =
      some (0xDE, 0x101, 8) := rfl

/-- V13. -/
theorem test_ldMemH :
    (ran { onFlat [(0x0100, 0x74)] with h := 0xC0, l := 0xDE }).map (fun t => (t.bus.mem.read 0xC0DE, t.pc, t.cycles)) =
      some (0xC0, 0x101, 8) := rfl

/-- V14. -/
theorem test_ldHlIncA_wraps :
    (ran { onFlat [(0x0100, 0x22)] with a := 0xAB, h := 0xFF, l := 0xFF }).map (fun t => (t.bus.mem.read 0xFFFF, t.h, t.l, t.cycles)) =
      some (0xAB, 0, 0, 8) := rfl

/-- V16. -/
theorem test_ldHlIncA_carries :
    (ran { onFlat [(0x0100, 0x22)] with a := 0x11, h := 0x80, l := 0xFF }).map (fun t => (t.bus.mem.read 0x80FF, t.h, t.l)) =
      some (0x11, 0x81, 0) := rfl

/-- V15. -/
theorem test_ldHlDecA_wraps :
    (ran { onFlat [(0x0100, 0x32)] with a := 0xCD }).map (fun t => (t.bus.mem.read 0x0000, t.h, t.l, t.cycles)) =
      some (0xCD, 0xFF, 0xFF, 8) := rfl

/-- V17, V19, V20. -/
theorem test_jrNzE8_taken :
    (ran (onFlat [(0x0100, 0x20), (0x0101, 0xFE)])).map (fun t => (t.pc, t.cycles)) =
      some (0x100, 0x0C) ∧
    (ran { onFlat [(0x0000, 0x20), (0x0001, 0x80)] with pc := 0x00 }).map (fun t => (t.pc, t.cycles)) =
      some (0xFF82, 0x0C) ∧
    (ran { onFlat [(0xFFF0, 0x20), (0xFFF1, 0x7F)] with pc := 0xFFF0 }).map (fun t => (t.pc, t.cycles)) =
      some (0x71, 0x0C) :=
  ⟨rfl, rfl, rfl⟩

/-- V18, V21. -/
theorem test_jrNzE8_condition :
    (ran { onFlat [(0x0100, 0x20), (0x0101, 0xFE)] with f := 0x80 }).map (fun t => (t.pc, t.f, t.cycles)) =
      some (0x102, 0x80, 8) ∧
    (ran { onFlat [(0x0100, 0x20)] with f := 0x70 }).map (fun t => (t.pc, t.f, t.cycles)) =
      some (0x102, 0x70, 0x0C) :=
  ⟨rfl, rfl⟩

/-- L1.5. -/
theorem test_xorA :
    (ran { onFlat [(0x0100, 0xAF)] with a := 0x3C, f := 0x7F }).map (fun t => (t.a, t.f, t.pc, t.cycles)) =
      some (0, 0x80, 0x101, 4) := rfl

/-- V27. -/
theorem test_xorA_clears_low_nibble :
    (ran { onFlat [(0x0100, 0xAF)] with a := 0x01, f := 0x0F }).map (fun t => (t.a, t.f, t.pc, t.cycles)) =
      some (0, 0x80, 0x101, 4) := rfl

/-- V22. -/
theorem test_xorB :
    (ran { onFlat [(0x0100, 0xA8)] with a := 0x0F, b := 0x0F, f := 0x70 }).map (fun t => (t.a, t.f, t.pc, t.cycles)) =
      some (0, 0x80, 0x101, 4) := rfl

/-- V23. -/
theorem test_xorL :
    (ran { onFlat [(0x0100, 0xAD)] with a := 0xF0, l := 0x0F, f := 0xF0 }).map (fun t => (t.a, t.f, t.pc, t.cycles)) =
      some (0xFF, 0, 0x101, 4) := rfl

/-- V24. -/
theorem test_orA_zero :
    (ran { onFlat [(0x0100, 0xB7)] with a := 0x00, f := 0x70 }).map (fun t => (t.a, t.f, t.pc, t.cycles)) =
      some (0, 0x80, 0x101, 4) := rfl

/-- V25. -/
theorem test_orA :
    (ran { onFlat [(0x0100, 0xB7)] with a := 0x80, f := 0xF0 }).map (fun t => (t.a, t.f, t.pc, t.cycles)) =
      some (0x80, 0, 0x101, 4) := rfl

/-- V26. -/
theorem test_orC :
    (ran { onFlat [(0x0100, 0xB1)] with f := 0x10 }).map (fun t => (t.a, t.f, t.pc, t.cycles)) =
      some (0, 0x80, 0x101, 4) := rfl

/-- L1.6, with N in F before: N is cleared. -/
theorem test_bit2D :
    (ran { onFlat [(0x0100, 0xCB), (0x0101, 0x52)] with d := 0x04, f := 0x40 }).map (fun t => (t.f, t.d, t.pc, t.cycles)) =
      some (0xA0, 4, 0x102, 8) := rfl

/-- L1.6 with F = 0x10, and R190 with F = 0x50, whose C is set too (log 25). -/
theorem test_bit2D_keeps_c :
    (ran { onFlat [(0x0100, 0xCB), (0x0101, 0x52)] with d := 0x04, f := 0x10 }).map (fun t => (t.f, t.pc, t.cycles)) =
      some (0xB0, 0x102, 8) := rfl

/-- L1.6 (the cycles are open). -/
theorem test_bit2Mem :
    (ran { onFlat [(0x0100, 0xCB), (0x0101, 0x56), (0xC000, 0x04)] with h := 0xC0, l := 0x00 }).map (fun t => (t.f, t.pc)) =
      some (0xA0, 0x102) := rfl

/-- V30 (the cycles are open). -/
theorem test_bit3Mem :
    (ran { onFlat [(0x0100, 0xCB), (0x0101, 0x5E), (0xC000, 0x08)] with h := 0xC0, l := 0x00 }).map (fun t => (t.f, t.bus.mem.read 0xC000, t.pc)) =
      some (0xA0, 8, 0x102) := rfl

/-- V28: Z is the bit itself. -/
theorem test_bit0A :
    (ran { onFlat [(0x0100, 0xCB), (0x0101, 0x47)] with a := 0x00, f := 0x10 }).map (fun t => (t.f, t.pc, t.cycles)) =
      some (0x30, 0x102, 8) := rfl

/-- V29. -/
theorem test_bit7H :
    (ran { onFlat [(0x0100, 0xCB), (0x0101, 0x7C)] with h := 0x80 }).map (fun t => (t.f, t.pc, t.cycles)) =
      some (0xA0, 0x102, 8) := rfl

/-- V31: Z is clear though the result is zero. -/
theorem test_res7A :
    (ran { onFlat [(0x0100, 0xCB), (0x0101, 0xBF)] with a := 0x80, f := 0xB0 }).map (fun t => (t.a, t.f, t.pc, t.cycles)) =
      some (0, 0, 0x102, 8) := rfl

/-- V32. -/
theorem test_set7A :
    (ran { onFlat [(0x0100, 0xCB), (0x0101, 0xFF)] with a := 0x7F, f := 0x80 }).map (fun t => (t.a, t.f, t.pc, t.cycles)) =
      some (0xFF, 0, 0x102, 8) := rfl

/-- V33. -/
theorem test_res0Mem :
    (ran { onFlat [(0x0100, 0xCB), (0x0101, 0x86)] with h := 0xC0, f := 0xF0 }).map (fun t => (t.bus.mem.read 0xC000, t.f, t.pc, t.cycles)) =
      some (0, 0, 0x102, 0x10) := rfl

/-- V34. -/
theorem test_set7Mem :
    (ran { onFlat [(0x0100, 0xCB), (0x0101, 0xFE), (0xC000, 0xFF)] with h := 0xC0 }).map (fun t => (t.bus.mem.read 0xC000, t.f, t.pc, t.cycles)) =
      some (0xFF, 0, 0x102, 0x10) := rfl

/-- V35. -/
theorem test_set4L :
    (ran { onFlat [(0x0100, 0xCB), (0x0101, 0xE5)] with h := 0xC0, l := 0xFF }).map (fun t => (t.h, t.l, t.f, t.pc, t.cycles)) =
      some (0xC0, 0xFF, 0, 0x102, 8) := rfl

/-- V42: a sub-opcode 0xCB is no escape. -/
theorem test_set1E :
    (ran (onFlat [(0x0100, 0xCB), (0x0101, 0xCB)])).map (fun t => (t.e, t.f, t.pc, t.cycles)) =
      some (2, 0, 0x102, 8) := rfl

/-- V36. -/
theorem test_rlcA :
    (ran { onFlat [(0x0100, 0xCB), (0x0101, 0x07)] with a := 0x00, f := 0x10 }).map (fun t => (t.a, t.f, t.pc, t.cycles)) =
      some (0, 0x80, 0x102, 8) := rfl

/-- V37. -/
theorem test_rlcC :
    (ran { onFlat [(0x0100, 0xCB), (0x0101, 0x01)] with c := 0xFF }).map (fun t => (t.c, t.f, t.pc, t.cycles)) =
      some (0xFF, 0x10, 0x102, 8) := rfl

/-- V38. -/
theorem test_rrcD :
    (ran { onFlat [(0x0100, 0xCB), (0x0101, 0x0A)] with d := 0x01 }).map (fun t => (t.d, t.f, t.pc, t.cycles)) =
      some (0x80, 0x10, 0x102, 8) := rfl

/-- V39. -/
theorem test_rlE :
    (ran { onFlat [(0x0100, 0xCB), (0x0101, 0x13)] with e := 0x80 }).map (fun t => (t.e, t.f, t.pc, t.cycles)) =
      some (0, 0x90, 0x102, 8) := rfl

/-- V40. -/
theorem test_rlE_carry_in :
    (ran { onFlat [(0x0100, 0xCB), (0x0101, 0x13)] with f := 0x10 }).map (fun t => (t.e, t.f, t.pc, t.cycles)) =
      some (1, 0, 0x102, 8) := rfl

/-- V41. -/
theorem test_rrH :
    (ran { onFlat [(0x0100, 0xCB), (0x0101, 0x1C)] with h := 0x01 }).map (fun t => (t.h, t.f, t.pc, t.cycles)) =
      some (0, 0x90, 0x102, 8) := rfl

/-- V47. -/
theorem test_rrL :
    (ran { onFlat [(0x0100, 0xCB), (0x0101, 0x1D)] with f := 0x10 }).map (fun t => (t.l, t.f, t.pc, t.cycles)) =
      some (0x80, 0, 0x102, 8) := rfl

/-- V48. -/
theorem test_rrMem :
    (ran { onFlat [(0x0100, 0xCB), (0x0101, 0x1E), (0xC000, 0x01)] with h := 0xC0 }).map (fun t => (t.bus.mem.read 0xC000, t.f, t.pc, t.cycles)) =
      some (0, 0x90, 0x102, 0x10) := rfl

/-- V49. -/
theorem test_rlcMem :
    (ran { onFlat [(0x0100, 0xCB), (0x0101, 0x06)] with h := 0xC0 }).map (fun t => (t.bus.mem.read 0xC000, t.f, t.pc, t.cycles)) =
      some (0, 0x80, 0x102, 0x10) := rfl

/-! ### Faults -/

/-- V44, V46, V43: PC past the opcode, `cycles` as it was. -/
theorem test_unimplemented_primary :
    step (onFlat [(0x0100, 0x76)]) = .fault (.unimplementedOpcode .primary 0x76
      (leftBy (onFlat [(0x0100, 0x76)]) 0x0101 (.unimplementedOpcode .primary 0x76))) ∧
    step (onFlat [(0x0100, 0xAE)]) = .fault (.unimplementedOpcode .primary 0xAE
      (leftBy (onFlat [(0x0100, 0xAE)]) 0x0101 (.unimplementedOpcode .primary 0xAE))) ∧
    step (onFlat [(0x0100, 0x3C)]) = .fault (.unimplementedOpcode .primary 0x3C
      (leftBy (onFlat [(0x0100, 0x3C)]) 0x0101 (.unimplementedOpcode .primary 0x3C))) :=
  ⟨rfl, rfl, rfl⟩

/-- V45. -/
theorem test_unimplemented_secondary :
    step (onFlat [(0x0100, 0xCB), (0x0101, 0x37)]) = .fault (.unimplementedOpcode .secondary 0x37
      (leftBy (onFlat [(0x0100, 0xCB), (0x0101, 0x37)]) 0x0102 (.unimplementedOpcode .secondary 0x37))) := rfl

/-- V50. -/
theorem test_failed_word_fetch :
    step (onMinimal 0x00FF [(0xFF, 0x21)]) =
      .fault (.unmappedAccess 0x0100 (leftBy (onMinimal 0x00FF [(0xFF, 0x21)]) 0x0100 (.unmappedAccess 0x0100))) := rfl

/-- V51's start. -/
def onBootStore : State := { onMinimal 0x0010 [(0x10, 0x36), (0x11, 0x99)] with l := 0x20 }

/-- V51. -/
theorem test_write_to_boot_image :
    step onBootStore =
      .fault (.readOnlyViolation 0x0020 (leftBy onBootStore 0x0012 (.readOnlyViolation 0x0020))) := rfl

/-- V52's start. -/
def onUnbackedOperand : State := { onMinimal 0x0010 [(0x10, 0xCB), (0x11, 0x86)] with h := 0x40, f := 0xF0 }

/-- V52. -/
theorem test_read_fails_before_write :
    step onUnbackedOperand =
      .fault (.unmappedAccess 0x4000 (leftBy onUnbackedOperand 0x0012 (.unmappedAccess 0x4000))) := rfl

/-- V53. -/
theorem test_faulted_machine :
    step ((onFlat []).fail (.unmappedAccess 0)) =
      .fault (.notRunning (.unmappedAccess 0) ((onFlat []).fail (.unmappedAccess 0))) := rfl

/-- P6's third and fourth steps: LD (HL),A unmaps the boot image. -/
def beforeUnmap : State := { onMinimal 0x00FD [(0xFD, 0x77)] with a := 1, h := 0xFF, l := 0x50 }

/-- P6: after the write the image is gone, and 0x00FE is not backed. -/
theorem test_unmap :
    (ran beforeUnmap).map (fun t => (t.pc, t.bus.bootMapped, t.bus.readError 0x00FE)) =
      some (0x00FE, false, some (.unmappedAccess 0x00FE)) := rfl

/-- R61, R71 (log 4): at an external address the open functions decide, whether or not the access
fails; the error is the access's own. -/
theorem test_external_access :
    (externalBus 0x4000).readError 0x4000 =
      (if (Config.externalRead (externalBus 0x4000) 0x4000).isSome then none else some (.unmappedAccess 0x4000)) ∧
    (externalBus 0x4000).writeError 0x4000 5 =
      (Config.externalWriteError (externalBus 0x4000) 0x4000 5).map (writeRefusalError 0x4000) ∧
    ((externalBus 0x4000).stored 0x4000 5).mem = [] :=
  ⟨rfl, rfl, rfl⟩

/-- R70: the same write once more completes and changes nothing more, the unmapping one too. -/
theorem test_write_is_idempotent :
    (Bus.flat [(5, 1)]).stored 5 0 = ((Bus.flat [(5, 1)]).stored 5 0).stored 5 0 ∧
    ((minimalBus []).stored 0xFF50 1).bootMapped = false ∧
    (((minimalBus []).stored 0xFF50 1).stored 0xFF50 1).bootMapped = false ∧
    ((minimalBus []).stored 0xFF50 1).writeError 0xFF50 1 = none :=
  ⟨rfl, rfl, rfl, rfl⟩

/-- R63: a read-only region reads and does not write. -/
theorem test_read_only_region :
    (romBus 0x4000).read 0x4000 = .ok 0 ∧ (romBus 0x4000).write 0x4000 5 = .error (.readOnlyViolation 0x4000) :=
  ⟨rfl, rfl⟩

/-! ### The host -/

/-- L1.1. -/
theorem test_pairs :
    let s := State.reset.setPair .bc 0x1234
    s.b = 0x12 ∧ s.c = 0x34 ∧ (s.setHostReg .c 0xFF).pair .bc = 0x12FF ∧
    (State.reset.setPair .af 0xBEEF).f = 0xEF ∧
    ((State.reset.setPair .hl 0xABCD).setHostReg .h 0x00).pair .hl = 0x00CD := by decide

/-- L1.2. -/
theorem test_flags :
    (({ State.reset with f := 0x0F } : State).setFlag .c true).f = 0x1F ∧
    (({ State.reset with f := 0xFF } : State).setFlag .z false).f = 0x7F ∧
    (({ State.reset with f := 0x5A } : State).setFlag .n true).f = 0x5A := by decide

/-- L1.7: the copy keeps its values when the original steps. -/
theorem test_copy_is_independent :
    let m := onFlat [(0x0100, 0x3E), (0x0101, 0x99)]
    (ran m).map (fun t => (t.a, t.sameAs m.copyState)) = some (0x99, false) ∧ m.copyState.sameAs m = true :=
  ⟨by decide +kernel, by decide +kernel⟩

/-- R245 with log 28: the comparison leaves the status out. -/
theorem test_comparison_leaves_status_out :
    ((onFlat []).fail (.unmappedAccess 0)).sameAs (onFlat []) = true := by decide +kernel

/-- R11: the bytes given at construction are stored, the last one at an address kept. -/
theorem test_contents : (Memory.ofList [(5, 1), (3, 2), (5, 4)]).read 5 = 4 ∧ (Memory.ofList [(5, 1), (3, 2)]).wf := by
  decide

/-- Memory keeps its canonical form: overwriting with what an unlisted address holds removes the
entry (log 6). -/
theorem test_memory_canonical :
    Memory.write (Memory.write [] 5 1) 3 2 = [(3, 2), (5, 1)] ∧ Memory.write [(3, 2), (5, 1)] 3 0 = [(5, 1)] := by
  decide

/-! ### Witnesses: the obligations' hypotheses can be met -/

theorem test_witness_RegisterAndPairWritesChangeOnlyTheirTarget :
    HostReg8.a ≠ Pair.hi .bc ∧ HostReg8.a ≠ Pair.lo .bc := by decide

theorem test_witness_FlagAccessorReplacesOneBit : (0 < 8 ∧ 7 < 8) ∧ Flag.position .z = 7 ∧ Flag.position .c = 4 := by
  decide

theorem test_witness_FlagsAreTheUpperFourBits : (0xA0#8) >>> 4 = (0xAF#8) >>> 4 ∧ 0xA0#8 ≠ 0xAF#8 := by decide

/-- One instruction that writes flags and one that does not. -/
theorem test_witness_FlagWritersClearTheLowNibble :
    (∃ t, exec .xorA (onFlat []) = .next t) ∧ firstByteWritesF .xorA = true ∧
    (∃ t, exec .ldAA (onFlat []) = .next t) ∧ firstByteWritesF .ldAA = false ∧
    (∃ t, exec (Instr.bitOn 0 (.reg .b)) (onFlat []) = .next t) ∧
    ∃ t, exec (Instr.bitOn 7 .mem) (onFlat []) = .next t :=
  ⟨⟨_, rfl⟩, rfl, ⟨_, rfl⟩, rfl, ⟨_, rfl⟩, ⟨_, rfl⟩⟩

/-- Each clause; the first with the high byte's address wrapping. -/
theorem test_witness_WordReadIsLittleEndian :
    ((Bus.flat [(0xFFFF, 0x34)]).read 0xFFFF = .ok 0x34 ∧ (Bus.flat [(0xFFFF, 0x34)]).read (0xFFFF + 1) = .ok 0) ∧
    (minimalBus []).read 0x0100 = .error (.unmappedAccess 0x0100) ∧
    ((minimalBus []).read 0x00FF = .ok 0 ∧
      (minimalBus []).read (0x00FF + 1) = .error (.unmappedAccess 0x0100)) :=
  ⟨⟨rfl, rfl⟩, rfl, rfl, rfl⟩

/-- Each clause, at the image's first and last address; the write clause with and without the unmap. -/
theorem test_witness_BootImageIsReadOnlyUntilUnmapped :
    (∃ b, constructBus (List.replicate 256 0) ⟨resetPolicy, [], []⟩ = .ok b) ∧
    ((minimalBus []).bootMapped = true ∧ (0x0000#16).toNat < 256 ∧ (0x00FF#16).toNat < 256) ∧
    (∃ b', (minimalBus []).write 0xFF50 1 = .ok b' ∧ b'.bootMapped = false) ∧
    ∃ b', (minimalBus []).write 0xFF50 2 = .ok b' ∧ b'.bootMapped = true :=
  ⟨⟨_, dif_pos List.length_replicate⟩, by decide, ⟨_, rfl, rfl⟩, ⟨_, rfl, rfl⟩⟩

/-- With the image mapped, at the lowest address of a register that it does not cover; and unmapped,
with the register under it. -/
theorem test_witness_UnmapWriteExposesThePolicy :
    ((Bus.minimal (imageOf []) 0x0100 [1]).policy.bootCtrl = some 0x0100 ∧ 256 ≤ (0x0100#16).toNat ∧
      1 ∈ (Bus.minimal (imageOf []) 0x0100 [1]).policy.unmapValues) ∧
    (let b := { Bus.minimal (imageOf []) 0x0050 [1] with bootMapped := false }
     b.policy.bootCtrl = some 0x0050 ∧ b.bootMapped = false ∧ 1 ∈ b.policy.unmapValues) ∧
    (0x00FF#16).toNat < 256 ∧ 0x00FF#16 ≠ 0x0050#16 ∧ (minimalBus []).access 0x00FF = none ∧
    (Bus.flat []).access 0x00FF = some .readWrite ∧ (romBus 0x00FF).access 0x00FF = some .readOnly ∧
    (externalBus 0x00FF).access 0x00FF = some .external := by decide

theorem test_witness_MinimalReferenceBusBacksNothingElse :
    256 ≤ (0x0100#16).toNat ∧ 256 ≤ (0xFFFF#16).toNat ∧ 0xFFFF#16 ≠ 0x0100#16 ∧ (1#8) ∈ [1#8] ∧
    (0x00FF#16).toNat < 256 := by decide

theorem test_witness_WrittenByteReadsBackAndNoOtherChanges :
    (Bus.flat []).mem.wf ∧ (∃ b', (Bus.flat []).write 0xFFFF 1 = .ok b') ∧ (Bus.flat []).isBootCtrl 0xFFFF = false ∧
    (Bus.flat []).isExternal 0xFFFF = false ∧ 0x0000#16 ≠ 0xFFFF#16 ∧ (Bus.flat []).isBootCtrl 0x0000 = false ∧
    (Bus.flat []).isExternal 0x0000 = false ∧
        ((externalBus 0x4000).isExternal 0x4000 = true ∧ (externalBus 0x4000).inBootImage 0x4000 = false ∧
      (externalBus 0x4000).isBootCtrl 0x4000 = false) :=
  ⟨by decide, ⟨_, rfl⟩, rfl, rfl, by decide, rfl, rfl, rfl, rfl, rfl⟩

theorem test_witness_WrongBootImageSizeStopsConstruction :
    (List.replicate 255 (0 : Byte)).length ≠ 256 ∧ (List.replicate 257 (0 : Byte)).length ≠ 256 ∧
    ([] : List Byte).length ≠ 256 := by
  rw [List.length_replicate, List.length_replicate]
  decide

theorem test_witness_ConstructionGivesTheInitialMachine : (List.replicate 256 (0 : Byte)).length = 256 :=
  List.length_replicate

theorem test_witness_DecodeReadsBackEveryEncoding : WellFormed .nop ∧ WellFormed (.cbPrefix 0x20) := by decide

theorem test_witness_EveryDecodedInstructionIsItsBytes :
    decode [0x21#8, 0xFE, 0xEF, 0x00] = .ok (.ldHlD16 0xEFFE, [0x00]) := rfl

/-- One opcode of each length. -/
theorem test_witness_LengthFollowsFromTheFirstByte :
    decode [0x31#8, 0xFE, 0xFF] = .ok (.ldSpD16 0xFFFE, []) ∧ decode [0xCB#8, 0x20] = .ok (.cbPrefix 0x20, []) ∧
    decode [0xAF#8, 0x00] = .ok (.xorA, [0x00]) := ⟨rfl, rfl, rfl⟩

/-- V2's start: the instruction's bytes wrap. -/
theorem test_witness_StepRunsTheDecodedInstruction :
    (onFlat []).status = .running ∧ decode [0x21#8, 0x34, 0x12] = .ok (.ldHlD16 0x1234, []) ∧
    BytesAt (Bus.flat [(0, 0x12), (0xFFFE, 0x21), (0xFFFF, 0x34)]) 0xFFFE [0x21, 0x34, 0x12] :=
  ⟨rfl, rfl, rfl, rfl, rfl, trivial⟩

/-- Each clause, the sub-opcodes at both bounds. -/
theorem test_witness_UnimplementedOpcodesAreFatal :
    ((onFlat [(0x0100, 0x76)]).status = .running ∧ (Bus.flat [(0x0100, 0x76)]).read 0x0100 = .ok 0x76 ∧
      0x76#8 ∈ unimplementedPrimaryValues) ∧
    ((Bus.flat [(0x0100, 0xCB), (0x0101, 0x20)]).read 0x0100 = .ok 0xCB#8 ∧
      (Bus.flat [(0x0100, 0xCB), (0x0101, 0x20)]).read (0x0100 + 1) = .ok 0x20) ∧
    0x20#8 ≤ 0x3F#8 ∧ 0x3F#8 ≤ 0x3F#8 :=
  ⟨⟨rfl, rfl, by decide⟩, ⟨rfl, rfl⟩, by decide, by decide⟩

/-- Each clause: the fetch that fails is the first, the second, the third. -/
theorem test_witness_FailedFetchesLeavePcAtTheFetch :
    (onMinimal 0x0100 []).status = .running ∧
    (minimalBus []).read 0x0100 = .error (.unmappedAccess 0x0100) ∧
    ((minimalBus [(0xFF, 0x06)]).read 0x00FF = .ok 0x06 ∧
      (minimalBus [(0xFF, 0x06)]).read (0x00FF + 1) = .error (.unmappedAccess 0x0100)) ∧
    ((minimalBus [(0xFE, 0x21)]).read 0x00FE = .ok 0x21 ∧ (minimalBus [(0xFE, 0x21)]).read (0x00FE + 1) = .ok 0 ∧
      (minimalBus [(0xFE, 0x21)]).read (0x00FE + 2) = .error (.unmappedAccess 0x0100)) :=
  ⟨rfl, rfl, ⟨rfl, rfl⟩, rfl, rfl, rfl⟩

/-- A step that raises each error. -/
theorem test_witness_FailedStepsLeaveAllButPc :
    onBootStore.status = .running ∧
    (∃ left, step (onFlat [(0x0100, 0x3C)]) = .fault (.unimplementedOpcode .primary 0x3C left)) ∧
    (∃ left, step onUnbackedOperand = .fault (.unmappedAccess 0x4000 left)) ∧
    ∃ left, step onBootStore = .fault (.readOnlyViolation 0x0020 left) :=
  ⟨rfl, ⟨_, rfl⟩, ⟨_, rfl⟩, ⟨_, rfl⟩⟩

theorem test_witness_FaultedMachineTakesNoStep :
    ((onFlat []).fail (.unmappedAccess 0)).status = .faulted (.unmappedAccess 0) := rfl

theorem test_witness_CompletedStepsGrowTheCycleCounter : ∃ t, step (onFlat []) = .next t := ⟨_, rfl⟩

/-- V33's start: the step stores. -/
theorem test_witness_StepKeepsTheInvariant :
    let s : State := { onFlat [(0x0100, 0xCB), (0x0101, 0x86), (0xC000, 1)] with h := 0xC0 }
    Invariant s ∧ ∃ t, step s = .next t :=
  ⟨by unfold Invariant; decide, _, rfl⟩

theorem test_witness_ResetAndConstructionMeetTheInvariant :
    ∃ m, construct ⟨0, 0, 0, 0, 0, 0, 0, 0, 0⟩ (List.replicate 256 0) ⟨resetPolicy, [(0xC000, 1)], [7]⟩ = .ok m := by
  unfold construct constructBus
  rw [dif_pos List.length_replicate]
  exact ⟨_, rfl⟩

/-- A step that unmaps the image, and one on a machine whose image is unmapped. -/
theorem test_witness_StepsKeepTheBusParameters :
    (∃ t, step beforeUnmap = .next t ∧ beforeUnmap.bus.bootMapped = true ∧ t.bus.bootMapped = false) ∧
    ∃ t, step (onFlat []) = .next t ∧ (onFlat []).bus.bootMapped = false :=
  ⟨⟨_, rfl, rfl, rfl⟩, ⟨_, rfl, rfl⟩⟩

theorem test_witness_RunsCompose : Invariant (onFlat []) ∧ ∃ t, RunsTo 2 (onFlat []) t :=
  ⟨by unfold Invariant; decide, _, _, rfl, _, rfl, rfl⟩

theorem test_witness_SpIsWrittenByLdSpAndReadByNothing : ∀ v, Instr.nop ≠ .ldSpD16 v := by intro v h; cases h

theorem test_witness_OnlyTakenJrNzChangesPc :
    (∃ t, exec (.jrNzE8 0x80) (onFlat []) = .next t ∧ t.pc ≠ (onFlat []).pc) ∧ ∃ t, exec .nop (onFlat []) = .next t :=
  ⟨⟨_, rfl, by decide⟩, ⟨_, rfl⟩⟩

theorem test_witness_AtMostOneByteIsStored :
    (∃ t, exec .ldMemA (onFlat []) = .next t) ∧ ∃ t, exec .nop (onFlat []) = .next t := ⟨⟨_, rfl⟩, ⟨_, rfl⟩⟩

theorem test_witness_NopAdvancesPcAndCycles :
    (onFlat []).status = .running ∧ (onFlat []).bus.read (onFlat []).pc = .ok 0x00#8 ∧
    (onMinimal 0x0100 []).status = .running ∧
    (onMinimal 0x0100 []).bus.read (onMinimal 0x0100 []).pc = .error (.unmappedAccess 0x0100) :=
  ⟨rfl, rfl, rfl, rfl⟩

/-- A store that the bus accepts, and one that it does not (unbacked, read-only). -/
theorem test_witness_LdMemImmediateStoresAtHl :
    (onFlat []).bus.writeError (onFlat []).hl 1 = none ∧
    { onMinimal 0 [] with h := 0x40 }.bus.writeError 0x4000 1 = some (.unmappedAccess 0x4000) ∧
    (onMinimal 0 []).bus.writeError (onMinimal 0 []).hl 1 = some (.readOnlyViolation 0x0000) :=
  ⟨rfl, rfl, rfl⟩

theorem test_witness_LdFromHlLoadsTheRegister :
    (onFlat []).bus.readError (onFlat []).hl = none ∧
    onUnbackedOperand.bus.readError onUnbackedOperand.hl = some (.unmappedAccess 0x4000) := ⟨rfl, rfl⟩

theorem test_witness_LdToHlStoresTheRegister :
    (onFlat []).bus.writeError (onFlat []).hl ((onFlat []).getReg .l) = none ∧
    onBootStore.bus.writeError onBootStore.hl (onBootStore.getReg .l) = some (.readOnlyViolation 0x0020) :=
  ⟨rfl, rfl⟩

theorem test_witness_LdHlStepStoresAThenMovesHl :
    (onFlat []).bus.writeError (onFlat []).hl (onFlat []).a = none ∧
    onBootStore.bus.writeError onBootStore.hl onBootStore.a = some (.readOnlyViolation 0x0020) := ⟨rfl, rfl⟩

theorem test_witness_JrNzBranchesWhenZIsClear :
    (onFlat []).f.getLsbD 7 = false ∧ ({ onFlat [] with f := 0x80 } : State).f.getLsbD 7 = true := by decide

theorem test_witness_BitTestsARegister : (0 : BitVec 3) ≠ 6 ∧ (7 : BitVec 3) ≠ 6 := by decide

theorem test_witness_BitTestsTheByteAtHl :
    (onFlat []).bus.readError (onFlat []).hl = none ∧
    onUnbackedOperand.bus.readError onUnbackedOperand.hl = some (.unmappedAccess 0x4000) := ⟨rfl, rfl⟩

/-- The three cases of a read-modify-write at HL, for whatever value is written. -/
theorem test_witness_ResClearsTheBitAndF :
    ∀ res : Byte, ((onFlat []).bus.readError (onFlat []).hl = none ∧ (onFlat []).bus.writeError (onFlat []).hl res = none) ∧
    onUnbackedOperand.bus.readError onUnbackedOperand.hl = some (.unmappedAccess 0x4000) ∧
    (onBootStore.bus.readError onBootStore.hl = none ∧
      onBootStore.bus.writeError onBootStore.hl res = some (.readOnlyViolation 0x0020)) :=
  fun _ => ⟨⟨rfl, rfl⟩, rfl, rfl, rfl⟩

theorem test_witness_SetSetsTheBitAndClearsF  :
    ∀ res : Byte, ((onFlat []).bus.readError (onFlat []).hl = none ∧ (onFlat []).bus.writeError (onFlat []).hl res = none) ∧
    onUnbackedOperand.bus.readError onUnbackedOperand.hl = some (.unmappedAccess 0x4000) ∧
    (onBootStore.bus.readError onBootStore.hl = none ∧
      onBootStore.bus.writeError onBootStore.hl res = some (.readOnlyViolation 0x0020)) :=
  test_witness_ResClearsTheBitAndF

theorem test_witness_RotatesMoveTheByteAtHl :
    ∀ res : Byte, ((onFlat []).bus.readError (onFlat []).hl = none ∧ (onFlat []).bus.writeError (onFlat []).hl res = none) ∧
    onUnbackedOperand.bus.readError onUnbackedOperand.hl = some (.unmappedAccess 0x4000) ∧
    (onBootStore.bus.readError onBootStore.hl = none ∧
      onBootStore.bus.writeError onBootStore.hl res = some (.readOnlyViolation 0x0020)) :=
  test_witness_ResClearsTheBitAndF

/-- Each clause, at the bounds of its sub-opcodes. -/
theorem test_witness_CbEscapeRunsTheSecondaryTable :
    (0x1F#8 < 0x20#8 ∨ 0x40#8 ≤ 0x1F#8) ∧ (0x40#8 < 0x20#8 ∨ 0x40#8 ≤ 0x40#8) ∧
    (0x20#8 ≤ 0x20#8 ∧ 0x20#8 < 0x40#8) ∧ (0x20#8 ≤ 0x3F#8 ∧ 0x3F#8 < 0x40#8) := by decide

theorem test_witness_CbEscapeCompletes :
    ((0x1F#8 < 0x20#8 ∨ 0x40#8 ≤ 0x1F#8) ∧ 0x1F#8 &&& 0x07#8 ≠ 0x06#8) ∧
    ((0x46#8 < 0x20#8 ∨ 0x40#8 ≤ 0x46#8) ∧ 0x46#8 &&& 0x07#8 = 0x06#8 ∧
      (onFlat []).bus.readError (onFlat []).hl = none ∧ ∀ v, (onFlat []).bus.writeError (onFlat []).hl v = none) :=
  ⟨by decide, by decide, by decide, rfl, fun _ => rfl⟩

theorem test_witness_RegisterLoadsChangeOneRegister :
    (∃ t, exec (Instr.ldRegImm .b 1) (onFlat []) = .next t) ∧ (∃ t, exec (Instr.ldRegReg .b .c) (onFlat []) = .next t) ∧
    ∃ t, exec (Instr.ldRegMem .b) (onFlat []) = .next t := ⟨⟨_, rfl⟩, ⟨_, rfl⟩, ⟨_, rfl⟩⟩

theorem test_witness_OtherNonStoringFormsKeepTheRest :
    (∃ t, exec (.jrNzE8 0x80) (onFlat []) = .next t) ∧ (∃ t, exec (Instr.ldPairImm .sp 1) (onFlat []) = .next t) ∧
    (∃ t, exec (Instr.xorReg .b) (onFlat []) = .next t) ∧ ∃ t, exec (Instr.bitOn 7 .mem) (onFlat []) = .next t :=
  ⟨⟨_, rfl⟩, ⟨_, rfl⟩, ⟨_, rfl⟩, ⟨_, rfl⟩⟩

theorem test_witness_RegisterModifyFormsChangeOneRegisterAndF :
    (∃ t, exec (Instr.resOn 7 (.reg .h)) (onFlat []) = .next t) ∧ ∃ t, exec (Instr.rrOn (.reg .a)) (onFlat []) = .next t :=
  ⟨⟨_, rfl⟩, ⟨_, rfl⟩⟩

/-- A store on a FlatBus, a step of HL, a read-modify-write, and the store that unmaps the image. -/
theorem test_witness_StoringFormsChangeOnlyTheByteAtHl :
    (onFlat []).bus.mem.wf ∧ (∃ t, exec (.ldMemD8 1) (onFlat []) = .next t) ∧
    (∃ t, exec .ldHlDecA (onFlat []) = .next t) ∧ (∃ t, exec (Instr.setOn 7 .mem) (onFlat []) = .next t) ∧
    (∃ t, exec .ldMemA beforeUnmap = .next t ∧ t.bus.bootMapped ≠ beforeUnmap.bus.bootMapped) ∧
    0x0100#16 ≠ beforeUnmap.hl ∧ beforeUnmap.bus.isBootCtrl 0x0100 = false ∧
    beforeUnmap.bus.isExternal 0x0100 = false ∧ beforeUnmap.bus.inBootImage 0x0100 = false ∧
    beforeUnmap.bus.inBootImage 0x00FF = true :=
  ⟨by decide, ⟨_, rfl⟩, ⟨_, rfl⟩, ⟨_, rfl⟩, ⟨_, rfl, by decide⟩, by decide, rfl, rfl, rfl, rfl⟩

end Sys2Proof.Machine
end

section
/-! SUPPORT and PROOFS. The statements about the state (10_state.md): the halves of a pair (R31 to R33),
the flags (R36 to R38), and SP (R43). -/

namespace Sys2Proof.Machine

/-! ### Halves and pairs (R31 to R33) -/

/-- `v[15:8]` as a number. -/
theorem toNat_highByte (v : Word) : (highByte v).toNat = v.toNat / 256 := by
  rw [highByte, BitVec.extractLsb'_toNat, Nat.shiftRight_eq_div_pow]
  omega

/-- `v[7:0]` as a number. -/
theorem toNat_lowByte (v : Word) : (lowByte v).toNat = v.toNat % 256 := by
  rw [lowByte, BitVec.extractLsb'_toNat, Nat.shiftRight_zero]

section HostRegisters

variable (s : State) (r : HostReg8) (v : Byte)

@[simp] theorem State.setHostReg_sp : (s.setHostReg r v).sp = s.sp := by cases r <;> rfl
@[simp] theorem State.setHostReg_pc : (s.setHostReg r v).pc = s.pc := by cases r <;> rfl
@[simp] theorem State.setHostReg_cycles : (s.setHostReg r v).cycles = s.cycles := by cases r <;> rfl
@[simp] theorem State.setHostReg_bus : (s.setHostReg r v).bus = s.bus := by cases r <;> rfl
@[simp] theorem State.setHostReg_status : (s.setHostReg r v).status = s.status := by cases r <;> rfl

/-- R33: a written register reads back, and no other register changes. -/
@[simp] theorem State.hostReg_setHostReg (q : HostReg8) :
    (s.setHostReg r v).hostReg q = if q = r then v else s.hostReg q := by
  cases r <;> cases q <;> rfl

end HostRegisters

/-- R31: the halves of a pair are two registers. -/
@[simp] theorem Pair.hi_ne_lo (p : Pair) : p.hi ≠ p.lo := by cases p <;> decide

@[simp] theorem Pair.lo_ne_hi (p : Pair) : p.lo ≠ p.hi := p.hi_ne_lo.symm

section Pairs

variable (s : State) (p : Pair) (v : Word)

@[simp] theorem State.setPair_sp : (s.setPair p v).sp = s.sp := by simp [State.setPair]
@[simp] theorem State.setPair_pc : (s.setPair p v).pc = s.pc := by simp [State.setPair]
@[simp] theorem State.setPair_cycles : (s.setPair p v).cycles = s.cycles := by simp [State.setPair]
@[simp] theorem State.setPair_bus : (s.setPair p v).bus = s.bus := by simp [State.setPair]
@[simp] theorem State.setPair_status : (s.setPair p v).status = s.status := by simp [State.setPair]

/-- R33: what each register holds after a write of a pair. -/
theorem State.hostReg_setPair (q : HostReg8) : (s.setPair p v).hostReg q =
    if q = p.lo then lowByte v else if q = p.hi then highByte v else s.hostReg q := by
  simp [State.setPair]

@[simp] theorem State.hostReg_hi_setPair : (s.setPair p v).hostReg p.hi = highByte v := by
  simp [State.hostReg_setPair]

@[simp] theorem State.hostReg_lo_setPair : (s.setPair p v).hostReg p.lo = lowByte v := by
  simp [State.hostReg_setPair]

/-- R32: the halves of the pair's value are its registers. -/
@[simp] theorem State.highByte_pair : highByte (s.pair p) = s.hostReg p.hi := highByte_joinBytes _ _

@[simp] theorem State.lowByte_pair : lowByte (s.pair p) = s.hostReg p.lo := lowByte_joinBytes _ _

/-- R32: a pair reads as the value last written to it. -/
@[simp] theorem State.pair_setPair : (s.setPair p v).pair p = v := by simp [State.pair]

/-- R33: a write of the high half leaves the low half in the pair. -/
theorem State.pair_setHostReg_hi (w : Byte) :
    (s.setHostReg p.hi w).pair p = joinBytes w (s.hostReg p.lo) := by simp [State.pair]

/-- R33: a write of the low half leaves the high half in the pair. -/
theorem State.pair_setHostReg_lo (w : Byte) :
    (s.setHostReg p.lo w).pair p = joinBytes (s.hostReg p.hi) w := by simp [State.pair]

end Pairs

/-- Settles O1: the frame of `setHostReg` by cases on the register, and the pair's from it. -/
theorem registerAndPairWritesChangeOnlyTheirTarget :
    Obligations.RegisterAndPairWritesChangeOnlyTheirTarget := by
  intro s
  refine ⟨fun r q v => s.hostReg_setHostReg r v q, fun r v => ?_, fun p v => ?_, fun p v => ?_⟩
  · simp
  · exact ⟨s.pair_setHostReg_hi p v, s.pair_setHostReg_lo p v⟩
  · have others (q : HostReg8) (hhi : q ≠ p.hi) (hlo : q ≠ p.lo) :
        (s.setPair p v).hostReg q = s.hostReg q := by simp [State.hostReg_setPair, hhi, hlo]
    exact ⟨by simp [toNat_highByte], by simp [toNat_lowByte], others, by simp⟩

/-- Settles O2: splitting a joined word gives its halves back, and joining a split one the word. -/
theorem pairReadsItsHalves : Obligations.PairReadsItsHalves := by
  intro s p
  refine ⟨?_, ?_, s.pair_setPair p⟩
  · rw [← toNat_highByte, s.highByte_pair]
  · rw [← toNat_lowByte, s.lowByte_pair]

/-! ### The flags of F (R36, R38) -/

/-- R38: the replaced bit is `v` and every other bit stays. -/
theorem getLsbD_replaceBit {n i : Nat} (hi : i < 8) (f : Byte) (v : Bool) :
    (replaceBit f n v).getLsbD i = if i = n then v else f.getLsbD i := by
  have hmask : (1#8 <<< n).getLsbD i = decide (i = n) := by
    rw [← BitVec.twoPow_eq, BitVec.getLsbD_twoPow, Bool.eq_iff_iff]
    simp only [Bool.and_eq_true, decide_eq_true_eq]
    omega
  cases v with
  | false =>
    rw [replaceBit, if_neg Bool.false_ne_true, BitVec.getLsbD_and, BitVec.getLsbD_not, hmask,
      decide_eq_true hi]
    by_cases hn : i = n <;> simp [hn]
  | true =>
    rw [replaceBit, if_pos rfl, BitVec.getLsbD_or, hmask]
    by_cases hn : i = n <;> simp [hn]

/-- Settles O3, by what `replaceBit` does to each bit of F. -/
theorem flagAccessorReplacesOneBit : Obligations.FlagAccessorReplacesOneBit :=
  fun s _ v => ⟨fun _ hi => getLsbD_replaceBit hi s.f v, rfl⟩

/-- Bytes with the same upper nibble agree on every bit from 4 up. -/
theorem bitOf_congr_of_ushiftRight_four {f g : Byte} (h : f >>> 4 = g >>> 4) {i : Nat} (hi : 4 ≤ i) :
    bitOf f i = bitOf g i := by
  have hbit := congrArg (·.getLsbD (i - 4)) h
  simpa [BitVec.getLsbD_ushiftRight, bitOf, Nat.add_sub_cancel' hi] using hbit

/-- Settles O4: each flag is a bit of F by definition, and all four bits lie in the upper nibble. -/
theorem flagsAreTheUpperFourBits : Obligations.FlagsAreTheUpperFourBits := by
  refine ⟨fun _ => ⟨rfl, rfl, rfl, rfl⟩, fun _ => ⟨rfl, rfl, rfl, rfl⟩, fun f g h => ?_⟩
  have upper {i : Nat} : 4 ≤ i → bitOf f i = bitOf g i := bitOf_congr_of_ushiftRight_four h
  exact ⟨upper (by decide), upper (by decide), upper (by decide), upper (by decide)⟩

/-! ### What an instruction leaves in F (R37) -/

/-- R37: every F an instruction computes has F[3:0] = 0. -/
theorem packFlags_lowNibble : ∀ z n h c : Bool, packFlags z n h c &&& 0x0F#8 = 0 := by decide

theorem flagC_packFlags : ∀ z n h c : Bool, flagC (packFlags z n h c) = c := by decide

/-- R190, R191: BIT keeps C. -/
theorem flagC_bitTestFlags (tested : Bool) (f : Byte) : flagC (bitTestFlags tested f) = flagC f :=
  flagC_packFlags _ _ _ _

/-- R37, of a meaning: F[3:0] zero after an instruction that writes flags, all of F kept after any
other. -/
def FollowsFlagRule (i : Instr) (run : State → Result) : Prop :=
  ∀ s t, run s = .next t → if firstByteWritesF i then t.f &&& 0x0F#8 = 0 else t.f = s.f

theorem complete_f {n : Nat} {s t : State} (h : complete n s = .next t) : t.f = s.f := by
  rw [(complete_eq_next n s t).1 h, State.addCycles_f]

/-- A read-modify-write leaves in F what its flag function gives for the operand. -/
theorem modifyOperand_f {z : Operand} {res flags : Byte → Byte} {s t : State}
    (h : modifyOperand z res flags s = .next t) : ∃ v, t.f = flags v := by
  obtain ⟨r, -, rfl⟩ | ⟨-, -, -, rfl⟩ := modifyOperand_eq_next.1 h
  · exact ⟨s.getReg r, rfl⟩
  · exact ⟨s.bus.byteAt s.hl, rfl⟩

/-- A bit test leaves in F the flags of the tested bit. -/
theorem testBit_f {n : Fin 8} {z : Operand} {s t : State} (h : testBit n z s = .next t) :
    ∃ tested, t.f = bitTestFlags tested s.f := by
  obtain ⟨r, -, rfl⟩ | ⟨-, -, rfl⟩ := testBit_eq_next.1 h
  · exact ⟨_, rfl⟩
  · exact ⟨_, rfl⟩

theorem loadImmediate_f {z : Operand} {v : Byte} {cost : Nat} {s t : State}
    (h : loadImmediate z v cost s = .next t) : t.f = s.f := by
  obtain ⟨r, -, rfl⟩ | ⟨-, -, rfl⟩ := loadImmediate_eq_next.1 h <;> simp

theorem copyOperand_f {dst src : Operand} {cost : Nat} {s t : State}
    (h : copyOperand dst src cost s = .next t) : t.f = s.f := by
  obtain ⟨v, -, -, ⟨r, -, rfl⟩ | ⟨-, -, rfl⟩⟩ := copyOperand_eq_next.1 h <;> simp

theorem storeAStepHl_f {delta : Word} {s t : State} (h : storeAStepHl delta s = .next t) :
    t.f = s.f := by
  obtain ⟨-, rfl⟩ := storeAStepHl_eq_next.1 h
  simp

/-- A branch goes on from `s` or from the target. -/
theorem execJrNzE8_f {e : Byte} {s t : State} (h : execJrNzE8 e s = .next t) : t.f = s.f := by
  unfold execJrNzE8 at h
  split at h
  · exact complete_f h
  · exact (complete_f h).trans (s.setPc_f _)

/-- An instruction that writes flags follows the rule when its F is always a packed one. -/
theorem FollowsFlagRule.of_packed {i : Instr} {run : State → Result} (hi : firstByteWritesF i = true)
    (hrun : ∀ s t, run s = .next t → ∃ z n h c, t.f = packFlags z n h c) : FollowsFlagRule i run := by
  intro s t ht
  obtain ⟨z, n, h, c, hf⟩ := hrun s t ht
  simp [hi, hf, packFlags_lowNibble]

/-- An instruction that writes no flag follows the rule when it keeps F. -/
theorem FollowsFlagRule.of_kept {i : Instr} {run : State → Result} (hi : firstByteWritesF i = false)
    (hrun : ∀ s t, run s = .next t → t.f = s.f) : FollowsFlagRule i run := by
  intro s t ht
  simp [hi, hrun s t ht]

/-- RES and SET write F <- 0x00. -/
theorem FollowsFlagRule.of_bitChange {i : Instr} {z : Operand} {res : Byte → Byte}
    (hi : firstByteWritesF i = true) :
    FollowsFlagRule i (modifyOperand z res fun _ => bitChangeFlags) :=
  .of_packed hi fun _ _ ht => (modifyOperand_f ht).elim fun _ hf => ⟨_, _, _, _, hf⟩

theorem exec_followsFlagRule (i : Instr) : FollowsFlagRule i (exec i) := by
  refine exec_cases ?nop ?imm16 ?imm8 ?copy ?stepHl ?jr ?logic ?rotate ?test ?reset ?set ?escape i
  case nop => exact .of_kept rfl fun _ _ => complete_f
  case imm16 =>
    intro rr v
    have hi : firstByteWritesF (Instr.ldPairImm rr v) = false := by cases rr <;> rfl
    exact .of_kept hi fun s t ht => (complete_f ht).trans (s.setDest16_f rr v)
  case imm8 => exact fun _ _ _ _ hi _ => .of_kept hi fun _ _ => loadImmediate_f
  case copy => exact fun _ _ _ _ hi _ => .of_kept hi fun _ _ => copyOperand_f
  case stepHl => exact fun _ _ hi => .of_kept hi fun _ _ => storeAStepHl_f
  case jr => exact fun _ => .of_kept rfl fun _ _ => execJrNzE8_f
  case logic =>
    exact fun _ _ _ hi => .of_packed hi fun _ _ ht => ⟨_, _, _, _, complete_f ht⟩
  case rotate =>
    intro i k z hi
    refine .of_packed hi fun s t ht => ?_
    obtain ⟨v, hf⟩ := modifyOperand_f ht
    exact ⟨_, _, _, _, hf⟩
  case test =>
    intro i n z hi
    refine .of_packed hi fun s t ht => ?_
    obtain ⟨tested, hf⟩ := testBit_f ht
    exact ⟨_, _, _, _, hf⟩
  case reset => exact fun _ _ _ hi => .of_bitChange hi
  case set => exact fun _ _ _ hi => .of_bitChange hi
  case escape => exact fun _ s t ht => absurd ht (raise_ne_next _ s t)

/-- R190, R191: the meaning of BIT b at any operand. -/
theorem exec_bitOn (n : Fin 8) (z : Operand) (s : State) : exec (Instr.bitOn n z) s = testBit n z s := by
  fin_cases n <;> rcases z with ⟨_ | _ | _ | _ | _ | _ | _⟩ | _ <;> rfl

/-- Settles O5, shape by shape with `exec_cases`; BIT packs the old C. -/
theorem flagWritersClearTheLowNibble : Obligations.FlagWritersClearTheLowNibble := by
  refine ⟨exec_followsFlagRule, fun _ _ _ _ => rfl, fun n z s t ht => ?_⟩
  rw [exec_bitOn] at ht
  obtain ⟨tested, hf⟩ := testBit_f ht
  rw [hf, flagC_bitTestFlags]

/-! ### Changes of the state that no instruction reads (R43) -/

/-- `g` changes only what the core never reads: the registers, F, PC and the bus are the same, and `g`
commutes with every named update but a write of SP. -/
structure Unread (g : State → State) : Prop where
  getReg : ∀ s r, (g s).getReg r = s.getReg r
  f : ∀ s, (g s).f = s.f
  pc : ∀ s, (g s).pc = s.pc
  bus : ∀ s, (g s).bus = s.bus
  setReg : ∀ s r v, (g s).setReg r v = g (s.setReg r v)
  setF : ∀ s v, (g s).setF v = g (s.setF v)
  setPc : ∀ s v, (g s).setPc v = g (s.setPc v)
  setBus : ∀ s b, (g s).setBus b = g (s.setBus b)
  addCycles : ∀ s n, (g s).addCycles n = g (s.addCycles n)
  fail : ∀ s e, (g s).fail e = g (s.fail e)

/-- Running from the changed state gives the changed result. -/
def CommutesWith (g : State → State) (run : State → Result) : Prop :=
  ∀ s, run (g s) = mapResult g (run s)

section Unread

variable {g : State → State} (hg : Unread g)
include hg

theorem Unread.a (s : State) : (g s).a = s.a := hg.getReg s .a

theorem Unread.hl (s : State) : (g s).hl = s.hl :=
  congrArg₂ joinBytes (hg.getReg s .h) (hg.getReg s .l)

theorem Unread.setHl (s : State) (v : Word) : (g s).setHl v = g (s.setHl v) := by
  simp only [State.setHl, hg.setReg]

theorem Unread.commutes_raise (e : FatalError) : CommutesWith g (raise e) := by
  intro s
  cases e <;> simp only [raise, mapResult, hg.fail]

theorem Unread.commutes_complete (n : Nat) : CommutesWith g (complete n) := by
  intro s
  simp only [complete, mapResult, hg.addCycles]

theorem Unread.commutes_readThen (s : State) (a : Word) {k k' : Byte → Result}
    (hk : ∀ v, k' v = mapResult g (k v)) : readThen (g s) a k' = mapResult g (readThen s a k) := by
  simp only [readThen, hg.bus]
  cases s.bus.read a with
  | ok v => exact hk v
  | error e => exact hg.commutes_raise e s

theorem Unread.commutes_writeThen (s : State) (a : Word) (v : Byte) {k : State → Result}
    (hk : CommutesWith g k) : writeThen (g s) a v k = mapResult g (writeThen s a v k) := by
  simp only [writeThen, hg.bus]
  cases s.bus.write a v with
  | ok b => simpa only [hg.setBus] using hk (s.setBus b)
  | error e => exact hg.commutes_raise e s

theorem Unread.commutes_readOperand (s : State) (z : Operand) {k k' : Byte → Result}
    (hk : ∀ v, k' v = mapResult g (k v)) : readOperand (g s) z k' = mapResult g (readOperand s z k) := by
  cases z with
  | reg r => simpa only [readOperand, hg.getReg] using hk (s.getReg r)
  | mem => simpa only [readOperand, hg.hl] using hg.commutes_readThen s s.hl hk

theorem Unread.commutes_writeOperand (s : State) (z : Operand) (v : Byte) {k : State → Result}
    (hk : CommutesWith g k) : writeOperand (g s) z v k = mapResult g (writeOperand s z v k) := by
  cases z with
  | reg r => simpa only [writeOperand, hg.setReg] using hk (s.setReg r v)
  | mem => simpa only [writeOperand, hg.hl] using hg.commutes_writeThen s s.hl v hk

theorem Unread.commutes_modifyOperand (z : Operand) (res flags : Byte → Byte) :
    CommutesWith g (modifyOperand z res flags) := by
  refine fun s => hg.commutes_readOperand s z fun v => hg.commutes_writeOperand s z (res v) fun t => ?_
  rw [hg.setF]
  exact hg.commutes_complete _ _

theorem Unread.commutes_rotateOperand (k : Rotate) (z : Operand) : CommutesWith g (rotateOperand k z) := by
  intro s
  simp only [rotateOperand, hg.f]
  exact hg.commutes_modifyOperand z _ _ s

theorem Unread.commutes_testBit (n : Fin 8) (z : Operand) : CommutesWith g (testBit n z) := by
  refine fun s => hg.commutes_readOperand s z fun v => ?_
  rw [hg.f, hg.setF]
  exact hg.commutes_complete _ _

theorem Unread.commutes_loadImmediate (z : Operand) (v : Byte) (cost : Nat) :
    CommutesWith g (loadImmediate z v cost) :=
  fun s => hg.commutes_writeOperand s z v (hg.commutes_complete cost)

theorem Unread.commutes_copyOperand (dst src : Operand) (cost : Nat) :
    CommutesWith g (copyOperand dst src cost) :=
  fun s => hg.commutes_readOperand s src fun v => hg.commutes_writeOperand s dst v (hg.commutes_complete cost)

theorem Unread.commutes_storeAStepHl (delta : Word) : CommutesWith g (storeAStepHl delta) := by
  intro s
  simp only [storeAStepHl, hg.hl, hg.a]
  refine hg.commutes_writeThen s s.hl s.a fun t => ?_
  rw [hg.hl, hg.setHl]
  exact hg.commutes_complete _ _

theorem Unread.commutes_logicA (op : Byte → Byte → Byte) (r : Reg8) : CommutesWith g (logicA op r) := by
  intro s
  simp only [logicA, hg.a, hg.getReg, hg.setReg, hg.setF]
  exact hg.commutes_complete _ _

theorem Unread.commutes_execJrNzE8 (e : Byte) : CommutesWith g (execJrNzE8 e) := by
  intro s
  simp only [execJrNzE8, hg.f, hg.pc, hg.setPc]
  split
  · exact hg.commutes_complete _ _
  · exact hg.commutes_complete _ _

/-- A 16-bit load writes two halves, or SP, the one write `Unread` leaves open. -/
theorem Unread.commutes_loadImmediate16 (rr : Dest16) (v : Word)
    (hsp : rr = .sp → ∀ s, (g s).setSp v = g (s.setSp v)) : CommutesWith g (loadImmediate16 rr v) := by
  intro s
  have hdest : (g s).setDest16 rr v = g (s.setDest16 rr v) := by
    cases rr with
    | bc => simp only [State.setDest16, hg.setReg]
    | de => simp only [State.setDest16, hg.setReg]
    | hl => exact hg.setHl s v
    | sp => exact hsp rfl s
  simp only [loadImmediate16, hdest]
  exact hg.commutes_complete _ _

/-- No instruction reads an unread change: the result is the same with that change made to it. LD
SP,d16 needs that the change commutes with its write of SP. -/
theorem Unread.commutes_exec (i : Instr)
    (hsp : ∀ v, i = .ldSpD16 v → ∀ s, (g s).setSp v = g (s.setSp v)) : CommutesWith g (exec i) := by
  revert hsp
  refine exec_cases
    (P := fun i run => (∀ v, i = .ldSpD16 v → ∀ s, (g s).setSp v = g (s.setSp v)) → CommutesWith g run)
    ?nop ?imm16 ?imm8 ?copy ?stepHl ?jr ?logic ?rotate ?test ?reset ?set ?escape i
  case nop => exact fun _ => hg.commutes_complete 4
  case imm16 => exact fun rr v hsp => hg.commutes_loadImmediate16 rr v fun hrr => hsp v (by rw [hrr]; rfl)
  case imm8 => exact fun _ z v cost _ _ _ => hg.commutes_loadImmediate z v cost
  case copy => exact fun _ dst src cost _ _ _ => hg.commutes_copyOperand dst src cost
  case stepHl => exact fun _ delta _ _ => hg.commutes_storeAStepHl delta
  case jr => exact fun e _ => hg.commutes_execJrNzE8 e
  case logic => exact fun _ op r _ _ => hg.commutes_logicA op r
  case rotate => exact fun _ k z _ _ => hg.commutes_rotateOperand k z
  case test => exact fun _ n z _ _ => hg.commutes_testBit n z
  case reset => exact fun _ n z _ _ => hg.commutes_modifyOperand z (clearBit n) _
  case set => exact fun _ n z _ _ => hg.commutes_modifyOperand z (raiseBit n) _
  case escape => exact fun sub _ => hg.commutes_raise _

end Unread

/-- R43: the core reads no SP. -/
theorem unread_setSp (x : Word) : Unread (·.setSp x) where
  getReg s := s.getReg_setSp x
  f _ := rfl
  pc _ := rfl
  bus _ := rfl
  setReg _ r _ := by cases r <;> rfl
  setF _ _ := rfl
  setPc _ _ := rfl
  setBus _ _ := rfl
  addCycles _ _ := rfl
  fail _ _ := rfl

/-- Settles O32: another SP is a change no instruction reads, and LD SP,d16 overwrites it. -/
theorem spIsWrittenByLdSpAndReadByNothing : Obligations.SpIsWrittenByLdSpAndReadByNothing := by
  refine ⟨fun v s => ⟨_, rfl, rfl⟩, fun _ _ _ => rfl, fun i s x hi => ?_⟩
  exact (unread_setSp x).commutes_exec i (fun v hv => absurd hv (hi v)) s

end Sys2Proof.Machine
end

section
/-! SUPPORT and PROOFS. The statement about memory (20_memory.md): no instruction stores more than one
byte (R65). -/

namespace Sys2Proof.Machine

/-! ### What an instruction leaves of the bus (R65) -/

/-- R65: from `s` to `t` the bus is left alone, or written once, one byte at the address HL held. -/
def StoresAtMostOneByte (s t : State) : Prop :=
  t.bus = s.bus ∨ ∃ v, s.bus.write s.hl v = .ok t.bus

/-- A bus holding one byte more at HL, where the write of that byte is accepted, is that write. -/
theorem StoresAtMostOneByte.of_stored {s t : State} {v : Byte} (hw : s.bus.writeError s.hl v = none)
    (ht : t.bus = s.bus.stored s.hl v) : StoresAtMostOneByte s t :=
  .inr ⟨v, Bus.write_eq_ok.2 ⟨hw, ht⟩⟩

theorem complete_bus {n : Nat} {s t : State} (h : complete n s = .next t) : t.bus = s.bus := by
  rw [(complete_eq_next n s t).1 h, State.addCycles_bus]

theorem loadImmediate16_bus {rr : Dest16} {v : Word} {s t : State}
    (h : loadImmediate16 rr v s = .next t) : t.bus = s.bus :=
  (complete_bus h).trans (s.setDest16_bus rr v)

theorem logicA_bus {op : Byte → Byte → Byte} {r : Reg8} {s t : State}
    (h : logicA op r s = .next t) : t.bus = s.bus := by
  rw [complete_bus h, State.setF_bus, State.setReg_bus]

theorem execJrNzE8_bus {e : Byte} {s t : State} (h : execJrNzE8 e s = .next t) : t.bus = s.bus := by
  unfold execJrNzE8 at h
  split at h
  · exact complete_bus h
  · exact (complete_bus h).trans (s.setPc_bus _)

theorem testBit_bus {n : Fin 8} {z : Operand} {s t : State} (h : testBit n z s = .next t) :
    t.bus = s.bus := by
  obtain ⟨-, -, rfl⟩ | ⟨-, -, rfl⟩ := testBit_eq_next.1 h <;> simp

theorem loadImmediate_stores {z : Operand} {v : Byte} {cost : Nat} {s t : State}
    (h : loadImmediate z v cost s = .next t) : StoresAtMostOneByte s t := by
  obtain ⟨r, -, rfl⟩ | ⟨-, hw, rfl⟩ := loadImmediate_eq_next.1 h
  · exact .inl (s.setReg_bus r v)
  · exact .of_stored hw rfl

theorem copyOperand_stores {dst src : Operand} {cost : Nat} {s t : State}
    (h : copyOperand dst src cost s = .next t) : StoresAtMostOneByte s t := by
  obtain ⟨v, -, -, ⟨r, -, rfl⟩ | ⟨-, hw, rfl⟩⟩ := copyOperand_eq_next.1 h
  · exact .inl (s.setReg_bus r v)
  · exact .of_stored hw rfl

/-- A read-modify-write of (HL) reads and writes the one byte there. -/
theorem modifyOperand_stores {z : Operand} {res flags : Byte → Byte} {s t : State}
    (h : modifyOperand z res flags s = .next t) : StoresAtMostOneByte s t := by
  obtain ⟨r, -, rfl⟩ | ⟨-, -, hw, rfl⟩ := modifyOperand_eq_next.1 h
  · exact .inl (s.setReg_bus r _)
  · exact .of_stored hw rfl

/-- A is stored at the old HL; the step of HL comes after. -/
theorem storeAStepHl_stores {delta : Word} {s t : State} (h : storeAStepHl delta s = .next t) :
    StoresAtMostOneByte s t := by
  obtain ⟨hw, rfl⟩ := storeAStepHl_eq_next.1 h
  exact .of_stored hw rfl

/-- Settles O35, shape by shape with `exec_cases`: the operand writes store at most the byte at HL, and
every other shape leaves the bus alone. -/
theorem atMostOneByteIsStored : Obligations.AtMostOneByteIsStored := by
  intro i
  refine exec_cases (P := fun _ run => ∀ s t, run s = .next t → StoresAtMostOneByte s t)
    ?nop ?imm16 ?imm8 ?copy ?stepHl ?jr ?logic ?rotate ?test ?reset ?set ?escape i
  case nop => exact fun _ _ ht => .inl (complete_bus ht)
  case imm16 => exact fun _ _ _ _ ht => .inl (loadImmediate16_bus ht)
  case imm8 => exact fun _ _ _ _ _ _ _ _ => loadImmediate_stores
  case copy => exact fun _ _ _ _ _ _ _ _ => copyOperand_stores
  case stepHl => exact fun _ _ _ _ _ => storeAStepHl_stores
  case jr => exact fun _ _ _ ht => .inl (execJrNzE8_bus ht)
  case logic => exact fun _ _ _ _ _ _ ht => .inl (logicA_bus ht)
  case rotate => exact fun _ _ _ _ _ _ => modifyOperand_stores
  case test => exact fun _ _ _ _ _ _ ht => .inl (testBit_bus ht)
  case reset => exact fun _ _ _ _ _ _ => modifyOperand_stores
  case set => exact fun _ _ _ _ _ _ => modifyOperand_stores
  case escape => exact fun _ s t ht => absurd ht (raise_ne_next _ s t)

end Sys2Proof.Machine
end

section
/-! SUPPORT and PROOFS. The statement about exceptions (60_exceptions.md): a boot image of the wrong
size stops construction (R234). -/

namespace Sys2Proof.Machine

/-- R234: the bus's size check refuses an image that is not 256 bytes. -/
theorem constructBus_eq_error {image : List Byte} (h : image.length ≠ 256) (p : BusParams) :
    constructBus image p = .error .invalidBootImageSize :=
  dif_neg h

/-- R260: the engine is built around the bus, so an error of the bus is the error of construction. -/
theorem construct_eq_error_of_constructBus {image : List Byte} {p : BusParams} {e : ConstructionError}
    (h : constructBus image p = .error e) (init : InitRegs) : construct init image p = .error e := by
  rw [construct, h]

/-- Settles O13: the bus refuses the image, and construction passes the refusal on. -/
theorem wrongBootImageSizeStopsConstruction : Obligations.WrongBootImageSizeStopsConstruction := by
  intro init image p hlength
  have hbus := constructBus_eq_error hlength p
  exact ⟨hbus, construct_eq_error_of_constructBus hbus init⟩

end Sys2Proof.Machine
end

section
/-! SUPPORT and PROOFS. The statement about the boot image (70_reset_and_hazards.md R263): its size, its
reads, and the mapping that only the control register ends. -/

namespace Sys2Proof.Machine

/-! ### The mapped boot image -/

/-- R71: while the image is mapped, it covers the addresses below 0x0100. -/
theorem Bus.inBootImage_of_mapped {b : Bus} {a : Word} (hmapped : b.bootMapped = true)
    (ha : a.toNat < 256) : b.inBootImage a = true := by
  simp [Bus.inBootImage, hmapped, ha]

/-- R263: a covered address reads the image's byte there, whatever the policy backs beneath. -/
theorem Bus.read_of_inBootImage {b : Bus} {a : Word} (h : b.inBootImage a = true) :
    b.read a = .ok (b.bootImage.toList.getD a.toNat 0) :=
  Bus.read_eq_ok.2 ⟨by simp [Bus.readError, h], by simp [Bus.byteAt, h]⟩

/-- R263: a covered address refuses every write. -/
theorem Bus.write_of_inBootImage {b : Bus} {a : Word} (h : b.inBootImage a = true) (v : Byte) :
    b.write a v = .error (.readOnlyViolation a) :=
  Bus.write_eq_error.2 (by simp [Bus.writeError, h])

/-! ### The unmap write -/

@[simp] theorem Bus.unmaps_iff (b : Bus) (v : Byte) :
    b.unmaps v = true ↔ v ∈ b.policy.unmapValues :=
  List.contains_iff_mem

/-- R72: after a store the image is mapped where it was before and the store is no unmap write. -/
theorem Bus.stored_bootMapped_iff (b : Bus) (a : Word) (v : Byte) :
    (b.stored a v).bootMapped = true ↔
      b.bootMapped = true ∧ ¬(b.isBootCtrl a = true ∧ v ∈ b.policy.unmapValues) := by
  rw [Bus.stored_bootMapped, Bool.and_eq_true, Bool.not_eq_true', ← Bool.not_eq_true,
    Bool.and_eq_true, Bus.unmaps_iff]

/-! ### Construction -/

/-- R260.1, R263: the bus is built from 256 bytes only, which are its boot image, mapped. -/
theorem constructBus_eq_ok {image : List Byte} {p : BusParams} {b : Bus}
    (h : constructBus image p = .ok b) :
    image.length = 256 ∧ b.bootMapped = true ∧ b.bootImage.toList = image := by
  by_cases hlength : image.length = 256
  · rw [constructBus, dif_pos hlength] at h
    cases h
    exact ⟨hlength, rfl, rfl⟩
  · rw [constructBus_eq_error hlength] at h
    cases h

/-- R263: the constructed bus reads byte `i` of the image at address `i`, since every index of the image
is an address below 0x0100. -/
theorem constructBus_read_image {image : List Byte} {p : BusParams} {b : Bus}
    (h : constructBus image p = .ok b) {i : Nat} (hi : i < image.length) :
    b.read (BitVec.ofNat 16 i) = .ok image[i] := by
  obtain ⟨hlength, hmapped, himage⟩ := constructBus_eq_ok h
  have ha : (BitVec.ofNat 16 i).toNat = i := Nat.mod_eq_of_lt (by omega)
  have hin : b.inBootImage (BitVec.ofNat 16 i) = true :=
    Bus.inBootImage_of_mapped hmapped (by omega)
  rw [Bus.read_of_inBootImage hin, ha, himage, List.getD_eq_getElem _ _ hi]

/-- Settles O8: construction maps the 256 bytes it was given, a mapped address reads its byte and refuses
a write, and a completed write is a store, which keeps the image and its mapping but for an unmap
write. -/
theorem bootImageIsReadOnlyUntilUnmapped : Obligations.BootImageIsReadOnlyUntilUnmapped := by
  refine ⟨fun image p b h => ?built, fun b a v hmapped ha => ?mapped, fun b b' a v h => ?written⟩
  case built =>
    obtain ⟨hlength, hmapped, -⟩ := constructBus_eq_ok h
    exact ⟨hlength, hmapped, fun _ hi => constructBus_read_image h hi⟩
  case mapped =>
    have hin := Bus.inBootImage_of_mapped hmapped ha
    exact ⟨Bus.read_of_inBootImage hin, Bus.write_of_inBootImage hin v⟩
  case written =>
    obtain ⟨-, rfl⟩ := Bus.write_eq_ok.1 h
    exact ⟨b.stored_bootImage a v, b.stored_bootMapped_iff a v⟩

end Sys2Proof.Machine
end

section
/-! SUPPORT and PROOFS. The statements about construction (70_reset_and_hazards.md R260), the host's
writes (60_exceptions.md R245) and the pairs as the host sees them (10_state.md R31). -/

namespace Sys2Proof.Machine

/-! ### Construction and reset -/

/-- R260: what construction gives for a 256-byte image. -/
theorem construct_eq_ok {image : List Byte} (h : image.length = 256) (init : InitRegs) (p : BusParams) :
    construct init image p = .ok (constructEngine init
      { bootImage := ⟨image.toArray, by simpa using h⟩
        bootMapped := true
        mem := Memory.ofList p.contents
        external := p.external
        policy := p.policy }) := by
  rw [construct, constructBus, dif_pos h]

/-- Settles O14, field by field of the machine that construction gives. -/
theorem constructionGivesTheInitialMachine : Obligations.ConstructionGivesTheInitialMachine := by
  intro init image p h
  refine ⟨_, construct_eq_ok h init p, ?_⟩
  and_intros <;> rfl

/-- Settles O15: 256 zero bytes are the zero image. -/
theorem resetIsTheConstructionWithTheChosenValues :
    Obligations.ResetIsTheConstructionWithTheChosenValues :=
  construct_eq_ok (List.length_replicate ..) ⟨0, 0, 0, 0, 0, 0, 0, 0, 0⟩ ⟨resetPolicy, [], []⟩

/-- Settles O28: memory built by writes is canonical, and reset stores nothing. -/
theorem resetAndConstructionMeetTheInvariant : Obligations.ResetAndConstructionMeetTheInvariant := by
  refine ⟨Memory.wf_nil, fun init image p m h => ?_⟩
  by_cases hlength : image.length = 256
  · cases (construct_eq_ok hlength init p).symm.trans h
    exact Memory.ofList_wf p.contents
  · cases (wrongBootImageSizeStopsConstruction init image p hlength).2.symm.trans h

/-! ### The host's writes (R245) -/

/-- Settles O6, by the kind of write. -/
theorem hostWritesKeepCyclesBusAndStatus : Obligations.HostWritesKeepCyclesBusAndStatus := by
  intro s w
  cases w with
  | reg r v => exact ⟨s.setHostReg_cycles r v, s.setHostReg_bus r v, s.setHostReg_status r v⟩
  | pair p v => exact ⟨s.setPair_cycles p v, s.setPair_bus p v, s.setPair_status p v⟩
  | sp v => exact ⟨rfl, rfl, rfl⟩
  | pc v => exact ⟨rfl, rfl, rfl⟩
  | flag x v => exact ⟨rfl, rfl, rfl⟩

/-! ### The pairs (R31) -/

/-- A joined word as a number. -/
theorem toNat_joinBytes (hi lo : Byte) : (joinBytes hi lo).toNat = 256 * hi.toNat + lo.toNat := by
  have hhigh := toNat_highByte (joinBytes hi lo)
  have hlow := toNat_lowByte (joinBytes hi lo)
  rw [highByte_joinBytes] at hhigh
  rw [lowByte_joinBytes] at hlow
  omega

/-- Settles O60: each pair is the join of its halves, and HL's accessors are the host's. -/
theorem pairsAreMadeOfTheirNamedHalves : Obligations.PairsAreMadeOfTheirNamedHalves := by
  intro s
  refine ⟨toNat_joinBytes _ _, toNat_joinBytes _ _, toNat_joinBytes _ _, toNat_joinBytes _ _, rfl,
    toNat_joinBytes _ _, fun v => ⟨rfl, s.hl_setHl v, toNat_highByte v, toNat_lowByte v⟩⟩

end Sys2Proof.Machine
end

section
/-! SUPPORT and PROOFS. The statements about the encoding (30_encoding.md): the round trip in both
directions (R90 to R107), and the length from the first byte (R104). -/

namespace Sys2Proof

open Sys2Proof.Machine

/-! ### The length from the first byte (R91, R104) -/

/-- R91: the first bytes that one more byte follows: LD r,d8, LD (HL),d8, JR NZ,e8 and the CB escape. -/
def byteOpcodes : List Byte := [0x06#8, 0x0E, 0x16, 0x1E, 0x26, 0x2E, 0x36, 0x3E, 0x20, 0xCB]

/-- R91: the first bytes that a 16-bit immediate follows: LD rr,d16. -/
def wordOpcodes : List Byte := [0x01#8, 0x11, 0x21, 0x31]

/-- R90: how many bytes an instruction of a form takes. -/
def Form.size : Form → Nat
  | .op _ => 1
  | .byte _ => 2
  | .word _ => 3

theorem lengthOfFirst_eq (op : Byte) : lengthOfFirst op = (primary op).map Form.size := by
  unfold lengthOfFirst
  split <;> simp [*, Form.size]

/-- R104: the length that each of the 256 first bytes calls for. -/
theorem lengthOfFirst_table : ∀ op : Byte, lengthOfFirst op = none ∨ lengthOfFirst op =
    some (if op ∈ wordOpcodes then 3 else if op ∈ byteOpcodes then 2 else 1) := by decide

theorem primary_size {op : Byte} {form : Form} (h : primary op = some form) :
    form.size = if op ∈ wordOpcodes then 3 else if op ∈ byteOpcodes then 2 else 1 := by
  have htable := lengthOfFirst_table op
  simpa [lengthOfFirst_eq, h] using htable

theorem mem_byteOpcodes {op : Byte} {mk : Byte → Instr} (h : primary op = some (.byte mk)) :
    op ∈ byteOpcodes := by
  have hsize : 2 = _ := primary_size h
  split_ifs at hsize
  · omega
  · assumption
  · omega

theorem mem_wordOpcodes {op : Byte} {mk : Word → Instr} (h : primary op = some (.word mk)) :
    op ∈ wordOpcodes := by
  have hsize : 3 = _ := primary_size h
  split_ifs at hsize
  · assumption
  · omega
  · omega

/-- A first byte in the table has a row of the form that its length tells. -/
theorem exists_form_of_length {op : Byte} {n : Nat} (h : lengthOfFirst op = some n) :
    ∃ form, primary op = some form ∧ form.size = n :=
  Option.map_eq_some_iff.1 ((lengthOfFirst_eq op).symm.trans h)

theorem exists_byte_of_mem {op : Byte} (h : op ∈ byteOpcodes) : ∃ mk, primary op = some (.byte mk) := by
  have hlen : ∀ op ∈ byteOpcodes, lengthOfFirst op = some 2 := by decide
  obtain ⟨_ | mk | _, hp, hsize⟩ := exists_form_of_length (hlen op h)
  · cases hsize
  · exact ⟨mk, hp⟩
  · cases hsize

theorem exists_word_of_mem {op : Byte} (h : op ∈ wordOpcodes) : ∃ mk, primary op = some (.word mk) := by
  have hlen : ∀ op ∈ wordOpcodes, lengthOfFirst op = some 3 := by decide
  obtain ⟨_ | _ | mk, hp, hsize⟩ := exists_form_of_length (hlen op h)
  · cases hsize
  · cases hsize
  · exact ⟨mk, hp⟩

/-! ### What decoding consumes -/

/-- R90, R96: bytes that decode are an opcode of some form, then what the form calls for. -/
theorem decode_eq_ok {bs rest : List Byte} {i : Instr} (h : decode bs = .ok (i, rest)) :
    (∃ op, primary op = some (.op i) ∧ bs = op :: rest) ∨
    (∃ op mk v, primary op = some (.byte mk) ∧ i = mk v ∧ bs = op :: v :: rest) ∨
    ∃ op mk lo hi, primary op = some (.word mk) ∧ i = mk (joinBytes hi lo) ∧
      bs = op :: lo :: hi :: rest := by
  unfold decode at h
  split at h
  · cases h
  · split at h <;> cases h
    · exact .inl ⟨_, ‹_›, rfl⟩
    · exact .inr (.inl ⟨_, _, _, ‹_›, rfl, rfl⟩)
    · exact .inr (.inr ⟨_, _, _, _, ‹_›, rfl, rfl⟩)

/-- Settles O19: decoding consumes what the form of the first byte calls for. -/
theorem lengthFollowsFromTheFirstByte : Obligations.LengthFollowsFromTheFirstByte := by
  intro op rest i after h
  obtain ⟨_, hp, hbs⟩ | ⟨_, _, _, hp, -, hbs⟩ | ⟨_, _, _, _, hp, -, hbs⟩ := decode_eq_ok h
  all_goals
    obtain ⟨rfl, hrest⟩ := List.cons.inj hbs
    rw [hrest]
    exact congrArg (after.length + ·) (primary_size hp)

/-! ### The two directions of the round trip (R90 to R107) -/

/-- The round trip, one instruction at a time (`Laws.RoundTrip`); the bytes of a row with at most a byte
operand decode by evaluation. -/
theorem decode_encode (i : Instr) : Laws.RoundTrip.Statement i := by
  cases i with
  | ldBcD16 v => exact Laws.RoundTrip.ldBcD16 v
  | ldDeD16 v => exact Laws.RoundTrip.ldDeD16 v
  | ldHlD16 v => exact Laws.RoundTrip.ldHlD16 v
  | ldSpD16 v => exact Laws.RoundTrip.ldSpD16 v
  | cbPrefix sub => exact Laws.RoundTrip.cbPrefix sub
  | _ => exact fun _ _ => rfl

/-- Settles O16, by the round trip of each instruction. -/
theorem decodeReadsBackEveryEncoding : Obligations.DecodeReadsBackEveryEncoding :=
  fun i rest h => decode_encode i h rest

/-- R100, R103: every sub-opcode's instruction, the escape's own among them, has the escape's bytes. -/
theorem secondary_encodes : ∀ sub : Byte,
    WellFormed (secondary sub) ∧ encode (secondary sub) = [0xCB#8, sub] := by decide

/-- R99: the one-byte rows of the primary table, all first bytes in turn. -/
theorem primary_op_encodes {op : Byte} {i : Instr} (h : primary op = some (.op i)) :
    WellFormed i ∧ encode i = [op] := by
  have table : ∀ op : Byte, ∀ form ∈ primary op,
      (match form with | .op i => decide (WellFormed i ∧ encode i = [op]) | _ => true) = true := by decide
  simpa [h] using table op

/-- R99, R100: each of the rows that one byte follows. -/
theorem primary_byte_encodes {op : Byte} {mk : Byte → Instr} (h : primary op = some (.byte mk)) (v : Byte) :
    WellFormed (mk v) ∧ encode (mk v) = [op, v] := by
  have hop := mem_byteOpcodes h
  simp only [byteOpcodes, List.mem_cons, List.not_mem_nil, or_false] at hop
  rcases hop with rfl | rfl | rfl | rfl | rfl | rfl | rfl | rfl | rfl | rfl <;> cases h
  on_goal 10 => exact secondary_encodes v
  all_goals exact ⟨rfl, rfl⟩

/-- R99: each of the rows that a 16-bit immediate follows. -/
theorem primary_word_encodes {op : Byte} {mk : Word → Instr} (h : primary op = some (.word mk)) (v : Word) :
    WellFormed (mk v) ∧ encode (mk v) = [op, lowByte v, highByte v] := by
  have hop := mem_wordOpcodes h
  simp only [wordOpcodes, List.mem_cons, List.not_mem_nil, or_false] at hop
  rcases hop with rfl | rfl | rfl | rfl <;> cases h <;> exact ⟨rfl, rfl⟩

/-- Settles O17: what is decoded is a row of the primary table, and each row encodes as its bytes. -/
theorem everyDecodedInstructionIsItsBytes : Obligations.EveryDecodedInstructionIsItsBytes := by
  intro bs i rest h
  obtain ⟨op, hp, rfl⟩ | ⟨op, mk, v, hp, rfl, rfl⟩ | ⟨op, mk, lo, hi, hp, rfl, rfl⟩ := decode_eq_ok h
  · obtain ⟨hwf, hbytes⟩ := primary_op_encodes hp
    exact ⟨hwf, by rw [hbytes]; rfl⟩
  · obtain ⟨hwf, hbytes⟩ := primary_byte_encodes hp v
    exact ⟨hwf, by rw [hbytes]; rfl⟩
  · obtain ⟨hwf, hbytes⟩ := primary_word_encodes hp (joinBytes hi lo)
    exact ⟨hwf, by rw [hbytes, lowByte_joinBytes, highByte_joinBytes]; rfl⟩

/-- Settles O18: each word is an encoding, with nothing after it. -/
theorem sampleWordsDecode : Obligations.SampleWordsDecode := by
  have reads (i : Instr) (hwf : WellFormed i) : decode (encode i) = .ok (i, []) := by
    simpa using decode_encode i hwf []
  exact ⟨reads .nop rfl, reads (.ldHlD16 0xEFFE) rfl, reads (.ldBD8 0x5A) rfl, reads (.ldMemD8 0x81) rfl,
    reads .ldAB rfl, reads .ldHMem rfl, reads .ldMemH rfl, reads .ldHlIncA rfl, reads .ldHlDecA rfl,
    reads (.jrNzE8 0xFB) rfl, reads .xorA rfl, reads .orA rfl, reads .bit7H rfl, reads .res7Mem rfl,
    reads .set1E rfl, reads .rlE rfl, reads (.cbPrefix 0x37) rfl⟩

end Sys2Proof
end

section
/-! SUPPORT and PROOFS. The statements about the bus (20_memory.md): the word read (R64), what the policy
backs (R62, R63, R72 to R74), and the write that reads back (R70, R76). -/

namespace Sys2Proof.Machine

/-- Settles O7: the two reads in turn, low byte first. -/
theorem wordReadIsLittleEndian : Obligations.WordReadIsLittleEndian := by
  intro b a
  refine ⟨fun lo hi hlo hhi => ?_, fun e hlo => ?_, fun lo e hlo hhi => ?_⟩
  · simp only [Bus.readWord, hlo, hhi]
  · simp only [Bus.readWord, hlo]
  · simp only [Bus.readWord, hlo, hhi]

/-! ### What the policy answers beside the boot image and the control register (R61 to R63) -/

theorem Bus.isExternal_iff {b : Bus} {a : Word} : b.isExternal a = true ↔ b.access a = some .external := by
  simp [Bus.isExternal]

theorem Bus.isExternal_eq_false {b : Bus} {a : Word} :
    b.isExternal a = false ↔ b.access a ≠ some .external := by
  simp [Bus.isExternal]

section Policy

variable {b : Bus} {a : Word} (himage : b.inBootImage a = false) (hctrl : b.isBootCtrl a = false)
include himage hctrl

theorem Bus.read_of_unbacked (h : b.access a = none) : b.read a = .error (.unmappedAccess a) :=
  Bus.read_eq_error.2 (by simp [Bus.readError, himage, hctrl, h])

theorem Bus.write_of_unbacked (h : b.access a = none) (v : Byte) : b.write a v = .error (.unmappedAccess a) :=
  Bus.write_eq_error.2 (by simp [Bus.writeError, himage, hctrl, h])

/-- R62: a region of memory answers with the stored byte. -/
theorem Bus.read_of_memory (h : b.access a = some .readOnly ∨ b.access a = some .readWrite) :
    b.read a = .ok (b.mem.read a.toNat) := by
  refine Bus.read_eq_ok.2 ?_
  rcases h with h | h <;> simp [Bus.readError, Bus.byteAt, Bus.isExternal, himage, hctrl, h]

theorem Bus.write_of_readWrite (h : b.access a = some .readWrite) (v : Byte) :
    b.write a v = .ok (b.stored a v) :=
  Bus.write_of_ok (by simp [Bus.writeError, himage, hctrl, h])

theorem Bus.read_of_external (h : b.access a = some .external) :
    b.read a = match Config.externalRead b a with
      | some w => .ok w
      | none => .error (.unmappedAccess a) := by
  cases hread : Config.externalRead b a <;>
    simp [Bus.read, Bus.readError, Bus.byteAt, Bus.isExternal, himage, hctrl, h, hread]

/-- R63: a write completes in writable memory, or where the external unit takes it. -/
theorem Bus.writeError_eq_none {v : Byte} : b.writeError a v = none ↔
    b.access a = some .readWrite ∨ (b.access a = some .external ∧ Config.externalWriteError b a v = none) := by
  unfold Bus.writeError
  cases h : b.access a with
  | none => simp [himage, hctrl]
  | some k => cases k <;> simp [himage, hctrl]

end Policy

/-- R263: a write that completes is not to the mapped boot image. -/
theorem Bus.inBootImage_of_writeError {b : Bus} {a : Word} {v : Byte} (h : b.writeError a v = none) :
    b.inBootImage a = false := by
  cases himage : b.inBootImage a with
  | false => rfl
  | true => simp [Bus.writeError, himage] at h

/-- R72: a write to the control register completes. -/
theorem Bus.writeError_of_ctrl {b : Bus} {a : Word} (h : b.isBootCtrl a = true) (v : Byte) :
    b.writeError a v = none := by
  have himage : b.inBootImage a = false := by
    rw [Bus.isBootCtrl, Bool.and_eq_true, Bool.not_eq_true'] at h
    exact h.1
  simp [Bus.writeError, himage, h]

theorem Bus.isBootCtrl_of_ne {b : Bus} {a x : Word} (h : b.policy.bootCtrl = some a) (hx : x ≠ a) :
    b.isBootCtrl x = false := by
  simp [Bus.isBootCtrl, h, hx.symm]

theorem Bus.isBootCtrl_of_none {b : Bus} (h : b.policy.bootCtrl = none) (x : Word) :
    b.isBootCtrl x = false := by
  simp [Bus.isBootCtrl, h]

theorem Bus.inBootImage_of_unmapped {b : Bus} (h : b.bootMapped = false) (x : Word) :
    b.inBootImage x = false := by
  simp [Bus.inBootImage, h]

theorem Bus.inBootImage_of_le {b : Bus} {x : Word} (h : 256 ≤ x.toNat) : b.inBootImage x = false := by
  simp [Bus.inBootImage, h]

/-- R71, log 7: the control register is reached where the mapped image does not cover it. -/
theorem Bus.isBootCtrl_of_policy {b : Bus} {a : Word} (h : b.policy.bootCtrl = some a)
    (himage : b.inBootImage a = false) : b.isBootCtrl a = true := by
  simp [Bus.isBootCtrl, h, himage]

/-! ### The unmap write and the buses of R73 and R74 -/

/-- R72: a write to the control register completes, and an unmapping value unmaps the image. -/
theorem Bus.unmapped_of_ctrl_write {b : Bus} {a : Word} {v : Byte} (h : b.isBootCtrl a = true)
    (hv : v ∈ b.policy.unmapValues) : (b.stored a v).bootMapped = false := by
  rw [← Bool.not_eq_true, Bus.stored_bootMapped_iff]
  exact fun hmapped => hmapped.2 ⟨h, hv⟩

/-- Settles O9: the write reaches the register, and what the policy backs is then left uncovered. -/
theorem unmapWriteExposesThePolicy : Obligations.UnmapWriteExposesThePolicy := by
  intro b a v hpolicy hcovered hv
  have himage : b.inBootImage a = false := by
    cases hm : b.bootMapped with
    | false => exact Bus.inBootImage_of_unmapped hm a
    | true => exact Bus.inBootImage_of_le (hcovered hm)
  have hctrl := Bus.isBootCtrl_of_policy hpolicy himage
  have hunmapped := Bus.unmapped_of_ctrl_write hctrl hv
  refine ⟨_, Bus.write_of_ok (Bus.writeError_of_ctrl hctrl v), hunmapped, rfl, fun x _ hx => ?_⟩
  have hximage := Bus.inBootImage_of_unmapped hunmapped x
  have hxctrl : (b.stored a v).isBootCtrl x = false := Bus.isBootCtrl_of_ne hpolicy hx
  exact ⟨Bus.read_of_unbacked hximage hxctrl, Bus.read_of_memory hximage hxctrl,
    Bus.read_of_external hximage hxctrl⟩

/-- Settles O10: the minimal bus has no region, so the image and the register are all it backs. -/
theorem minimalReferenceBusBacksNothingElse : Obligations.MinimalReferenceBusBacksNothingElse := by
  intro image ctrl vs hctrl
  have hreg : (Bus.minimal image ctrl vs).isBootCtrl ctrl = true :=
    Bus.isBootCtrl_of_policy rfl (Bus.inBootImage_of_le hctrl)
  refine ⟨fun a v ha hne => ?_, fun i => ?_, ?_, fun v => ?_⟩
  · have himage : (Bus.minimal image ctrl vs).inBootImage a = false := Bus.inBootImage_of_le ha
    have hnot : (Bus.minimal image ctrl vs).isBootCtrl a = false := Bus.isBootCtrl_of_ne rfl hne
    exact ⟨Bus.read_of_unbacked himage hnot rfl, Bus.write_of_unbacked himage hnot rfl v⟩
  · have ha : (BitVec.ofNat 16 i.val).toNat = i := Nat.mod_eq_of_lt (by omega)
    rw [Bus.read_of_inBootImage (Bus.inBootImage_of_mapped rfl (by omega)), ha]
    simp [Bus.minimal]
  · exact ⟨_, Bus.read_of_ok (by simp [Bus.readError, hreg])⟩
  · refine ⟨_, Bus.write_of_ok (Bus.writeError_of_ctrl hreg v), fun hv a ha => ?_⟩
    have himage := Bus.inBootImage_of_unmapped (Bus.unmapped_of_ctrl_write hreg hv) a
    have hne : a ≠ ctrl := fun h => by rw [h] at ha; omega
    have hnot : ((Bus.minimal image ctrl vs).stored ctrl v).isBootCtrl a = false := Bus.isBootCtrl_of_ne rfl hne
    exact ⟨Bus.read_of_unbacked himage hnot rfl, Bus.write_of_unbacked himage hnot rfl⟩

/-- R74: one region backs the whole address space. -/
theorem Bus.flat_access (m : Memory) (a : Word) : (Bus.flat m).access a = some .readWrite := by
  have ha : a.toNat < 0 + 65536 := by omega
  simp [Bus.access, Bus.flat, ha]

theorem Bus.flat_stored (m : Memory) (a : Word) (v : Byte) :
    (Bus.flat m).stored a v = Bus.flat (m.write a.toNat v) := by
  have hext : (Bus.flat m).isExternal a = false := Bus.isExternal_eq_false.2 (by simp [Bus.flat_access])
  rw [Bus.stored, hext]
  rfl

/-- Settles O11: every address of FlatBus is writable memory. -/
theorem flatBusNeverFails : Obligations.FlatBusNeverFails := by
  intro m a v
  have himage := Bus.inBootImage_of_unmapped (b := Bus.flat m) rfl a
  have hctrl := Bus.isBootCtrl_of_none (b := Bus.flat m) rfl a
  have hacc := Bus.flat_access m a
  exact ⟨Bus.read_of_memory himage hctrl (.inr hacc),
    (Bus.write_of_readWrite himage hctrl hacc v).trans (congrArg _ (Bus.flat_stored m a v))⟩

/-! ### Writing once more (R70) -/

/-- An address that the mapped image leaves open stays open after a store. -/
theorem Bus.inBootImage_stored {b : Bus} {x : Word} (h : b.inBootImage x = false) (a : Word) (v : Byte) :
    (b.stored a v).inBootImage x = false := by
  unfold Bus.inBootImage at h ⊢
  rw [Bus.stored_bootMapped, Bool.and_right_comm, h, Bool.false_and]

/-- A store that reaches the control register leaves it reachable, and no store makes it so. -/
theorem Bus.isBootCtrl_stored {b : Bus} {x : Word} (h : b.inBootImage x = false) (a : Word) (v : Byte) :
    (b.stored a v).isBootCtrl x = b.isBootCtrl x := by
  simp only [Bus.isBootCtrl, h, Bus.inBootImage_stored h, Bus.stored_policy]

/-- R72: after a store, the same write leaves the mapping as it is. -/
theorem Bus.remapped_stored {b : Bus} {a : Word} {v : Byte} (himage : b.inBootImage a = false) :
    (b.stored a v).remapped a v = b.stored a v := by
  have hunmaps : (b.stored a v).unmaps v = b.unmaps v := rfl
  have hfixed : ((b.stored a v).bootMapped && !((b.stored a v).isBootCtrl a && (b.stored a v).unmaps v)) =
      (b.stored a v).bootMapped := by
    rw [Bus.isBootCtrl_stored himage, hunmaps, Bus.stored_bootMapped, Bool.and_assoc, Bool.and_self]
  rw [Bus.remapped, hfixed]

/-- R61: the bus with the state that the external unit makes of a write. -/
def Bus.taken (b : Bus) (a : Word) (v : Byte) : Bus :=
  { b.remapped a v with external := Config.externalStored (b.remapped a v) a v }

/-- R70: the same write once more would succeed and change nothing more. -/
def Bus.Repeats (b : Bus) (a : Word) (v : Byte) : Prop :=
  Config.externalStored (b.taken a v) a v = (b.taken a v).external ∧
    (b.isBootCtrl a = true ∨ Config.externalWriteError (b.taken a v) a v = none)

theorem Bus.stored_of_repeats {b : Bus} {a : Word} {v : Byte} (hext : b.isExternal a = true)
    (h : b.Repeats a v) : b.stored a v = b.taken a v := by
  have hafter : b.externalAfter a v = (b.taken a v).external := if_pos h
  rw [Bus.stored, hext, hafter]
  rfl

theorem Bus.stored_of_not_repeats {b : Bus} {a : Word} {v : Byte} (hext : b.isExternal a = true)
    (h : ¬b.Repeats a v) : b.stored a v = b.remapped a v := by
  have hafter : b.externalAfter a v = b.external := if_neg h
  rw [Bus.stored, hext, hafter]
  rfl

theorem Bus.stored_of_memory {b : Bus} {a : Word} (hext : b.isExternal a = false) (v : Byte) :
    b.stored a v = { b.remapped a v with mem := b.mem.write a.toNat v } := by
  rw [Bus.stored, hext]
  rfl

/-- R70: a store, done once more, changes nothing more. -/
theorem Bus.stored_stored {b : Bus} {a : Word} {v : Byte} (hwf : b.mem.wf)
    (himage : b.inBootImage a = false) : (b.stored a v).stored a v = b.stored a v := by
  have hremap := Bus.remapped_stored (v := v) himage
  have hctrl := Bus.isBootCtrl_stored himage a v
  cases hext : b.isExternal a with
  | false =>
    rw [Bus.stored_of_memory (b := b.stored a v) hext, hremap, Bus.stored_of_memory hext]
    simp only [Memory.write_write hwf]
  | true =>
    by_cases h : b.Repeats a v
    · rw [Bus.stored_of_repeats hext h] at hremap hctrl ⊢
      have htaken : (b.taken a v).taken a v = b.taken a v := by
        rw [Bus.taken, hremap, h.1]
      have hrepeats : (b.taken a v).Repeats a v := by
        rw [Bus.Repeats, htaken, hctrl]
        exact h
      rw [Bus.stored_of_repeats (b := b.taken a v) hext hrepeats, htaken]
    · rw [Bus.stored_of_not_repeats hext h] at hremap hctrl ⊢
      have hrepeats : ¬(b.remapped a v).Repeats a v := by
        rw [Bus.Repeats, Bus.taken, hremap, hctrl]
        exact h
      rw [Bus.stored_of_not_repeats (b := b.remapped a v) hext hrepeats, hremap]

/-- R70: what accepted a write accepts it once more. -/
theorem Bus.writeError_stored {b : Bus} {a : Word} {v : Byte} (h : b.writeError a v = none) :
    (b.stored a v).writeError a v = none := by
  have himage := Bus.inBootImage_of_writeError h
  cases hctrl : b.isBootCtrl a with
  | true => exact Bus.writeError_of_ctrl ((Bus.isBootCtrl_stored himage a v).trans hctrl) v
  | false =>
    refine (Bus.writeError_eq_none (Bus.inBootImage_stored himage a v)
      ((Bus.isBootCtrl_stored himage a v).trans hctrl)).2 ?_
    refine ((Bus.writeError_eq_none himage hctrl).1 h).imp id fun ⟨hext, hok⟩ => ⟨hext, ?_⟩
    by_cases hr : b.Repeats a v
    · rw [Bus.stored_of_repeats (Bus.isExternal_iff.2 hext) hr]
      simpa [hctrl] using hr.2
    · rwa [Bus.stored_of_not_repeats (Bus.isExternal_iff.2 hext) hr, Bus.remapped_of_not_ctrl hctrl]

/-- R63, R76: where the bus itself stores the byte, it reads back. -/
theorem Bus.read_stored {b : Bus} {a : Word} {v : Byte} (hwf : b.mem.wf) (h : b.writeError a v = none)
    (hctrl : b.isBootCtrl a = false) (hext : b.isExternal a = false) : (b.stored a v).read a = .ok v := by
  have himage := Bus.inBootImage_of_writeError h
  have hacc : b.access a = some .readWrite :=
    ((Bus.writeError_eq_none himage hctrl).1 h).resolve_right fun hx => Bus.isExternal_eq_false.1 hext hx.1
  rw [Bus.read_of_memory (Bus.inBootImage_stored himage a v)
    ((Bus.isBootCtrl_stored himage a v).trans hctrl) (.inr hacc), Bus.stored_of_memory hext]
  simp [Memory.read_write hwf]

/-- Log 4: a write that reaches an external unit is answered by the unit, where it repeats. -/
theorem Bus.write_of_external {b : Bus} {a : Word} (hext : b.isExternal a = true)
    (himage : b.inBootImage a = false) (hctrl : b.isBootCtrl a = false) (v : Byte) :
    let after : Bus := { b with external := Config.externalStored b a v }
    b.write a v =
      match Config.externalWriteError b a v with
      | none =>
        if Config.externalStored after a v = after.external ∧ Config.externalWriteError after a v = none
        then .ok after else .ok b
      | some .unmapped => .error (.unmappedAccess a)
      | some .readOnly => .error (.readOnlyViolation a) := by
  intro after
  have hacc := Bus.isExternal_iff.1 hext
  have htaken : b.taken a v = after := by rw [Bus.taken, Bus.remapped_of_not_ctrl hctrl]
  cases herr : Config.externalWriteError b a v with
  | none =>
    rw [Bus.write_of_ok ((Bus.writeError_eq_none himage hctrl).2 (.inr ⟨hacc, herr⟩))]
    have hiff : b.Repeats a v ↔
        Config.externalStored after a v = after.external ∧ Config.externalWriteError after a v = none := by
      simp [Bus.Repeats, htaken, hctrl]
    by_cases hr : b.Repeats a v
    · rw [Bus.stored_of_repeats hext hr, htaken]
      exact (if_pos (hiff.1 hr)).symm
    · rw [Bus.stored_of_not_repeats hext hr, Bus.remapped_of_not_ctrl hctrl]
      exact (if_neg (hiff.not.1 hr)).symm
  | some r =>
    cases r <;>
      exact Bus.write_eq_error.2 (by simp [Bus.writeError, himage, hctrl, hacc, herr, writeRefusalError])

/-- Settles O12: a completed write is a store, whose reads, repetition and external unit are those of the
lemmas above. -/
theorem writtenByteReadsBackAndNoOtherChanges : Obligations.WrittenByteReadsBackAndNoOtherChanges := by
  refine ⟨fun b b' a v hwf hw hctrl => ?stored, fun b b' a v hwf hw => ?again,
    fun b a v hext himage hctrl => ?external⟩
  case stored =>
    obtain ⟨hok, rfl⟩ := Bus.write_eq_ok.1 hw
    refine ⟨fun hext => ⟨Bus.read_stored hwf hok hctrl hext, by simp [hext]⟩, ?_, fun x hx hxctrl hxext => ?_⟩
    · cases hext : b.isExternal a <;> simp [hext]
    · exact Bus.read_stored_of_ne hwf v hx hxctrl hxext (.inl (by simp [hctrl]))
  case again =>
    obtain ⟨hok, rfl⟩ := Bus.write_eq_ok.1 hw
    exact Bus.write_eq_ok.2 ⟨Bus.writeError_stored hok,
      (Bus.stored_stored hwf (Bus.inBootImage_of_writeError hok)).symm⟩
  case external =>
    exact ⟨Bus.read_of_external himage hctrl (Bus.isExternal_iff.1 hext),
      Bus.write_of_external hext himage hctrl v⟩

end Sys2Proof.Machine
end

section
/-! SUPPORT and PROOFS. What the step does (40_step_engine.md, 60_exceptions.md): its fetches, the
instruction it runs, and the machine that a failed step leaves. -/

namespace Sys2Proof.Machine

/-! ### What an instruction answers -/

/-- An instruction completes, or raises an error with the machine as it found it. -/
def CompletesOrRaises (run : State → Result) : Prop :=
  ∀ s, (∃ t, run s = .next t) ∨ ∃ e, run s = raise e s

theorem completesOrRaises_complete (n : Nat) (g : State → State) :
    CompletesOrRaises fun s => complete n (g s) :=
  fun _ => .inl ⟨_, rfl⟩

theorem completesOrRaises_readOperand (z : Operand) {k : State → Byte → Result}
    (hk : ∀ v, CompletesOrRaises (k · v)) : CompletesOrRaises fun s => readOperand s z (k s) := by
  intro s
  cases z with
  | reg r => exact hk _ s
  | mem =>
    cases h : s.bus.readError s.hl with
    | none => simpa only [readOperand, readThen_of_ok h] using hk _ s
    | some e => exact .inr ⟨e, readThen_of_error h _⟩

/-- A write is the last access of a handler, so what follows it completes. -/
theorem completesOrRaises_writeOperand (z : Operand) {v : State → Byte} {n : Nat} {g : State → State → State} :
    CompletesOrRaises fun s => writeOperand s z (v s) fun s' => complete n (g s s') := by
  intro s
  cases z with
  | reg r => exact .inl ⟨_, rfl⟩
  | mem =>
    cases h : s.bus.writeError s.hl (v s) with
    | none => exact .inl ⟨_, writeThen_of_ok h (fun s' => complete n (g s s'))⟩
    | some e => exact .inr ⟨e, writeThen_of_error h (fun s' => complete n (g s s'))⟩

theorem completesOrRaises_modifyOperand (z : Operand) (res flags : State → Byte → Byte) :
    CompletesOrRaises fun s => modifyOperand z (res s) (flags s) s :=
  completesOrRaises_readOperand z fun _ => completesOrRaises_writeOperand z

theorem completesOrRaises_execJrNzE8 (e : Byte) : CompletesOrRaises (execJrNzE8 e) := by
  intro s
  unfold execJrNzE8
  split <;> exact .inl ⟨_, rfl⟩

theorem exec_completesOrRaises (i : Instr) : CompletesOrRaises (exec i) := by
  refine exec_cases (P := fun _ => CompletesOrRaises)
    ?nop ?imm16 ?imm8 ?copy ?stepHl ?jr ?logic ?rotate ?test ?reset ?set ?escape i
  case nop => exact completesOrRaises_complete 4 id
  case imm16 => exact fun rr v => completesOrRaises_complete 12 (·.setDest16 rr v)
  case imm8 => exact fun _ z _ _ _ _ => completesOrRaises_writeOperand z
  case copy => exact fun _ dst src _ _ _ =>
    completesOrRaises_readOperand src fun _ => completesOrRaises_writeOperand dst
  case stepHl => exact fun _ _ _ => completesOrRaises_writeOperand .mem
  case jr => exact completesOrRaises_execJrNzE8
  case logic => exact fun _ _ _ _ => completesOrRaises_complete 4 _
  case rotate => exact fun _ _ z _ => completesOrRaises_modifyOperand z _ _
  case test => exact fun _ _ z _ =>
    completesOrRaises_readOperand z fun _ => completesOrRaises_complete _ _
  case reset => exact fun _ _ z _ => completesOrRaises_modifyOperand z _ _
  case set => exact fun _ _ z _ => completesOrRaises_modifyOperand z _ _
  case escape => exact fun _ _ => .inr ⟨_, rfl⟩

/-- Settles O31: a completed instruction and a raised error are no refusals. -/
theorem noInstructionIsRefused : Obligations.NoInstructionIsRefused := by
  intro i s r h
  obtain ⟨t, ht⟩ | ⟨e, he⟩ := exec_completesOrRaises i s
  · cases ht.symm.trans h
  · exact raise_ne_refused e s r (he.symm.trans h)

/-! ### The fetches of a step (R120 to R125) -/

@[simp] theorem State.setPc_self (s : State) : s.setPc s.pc = s := rfl

theorem step_of_running {s : State} (hs : s.status = .running) : step s = fetchInstr s exec := by
  rw [step, hs]

theorem step_of_faulted {s : State} {e : FatalError} (hs : s.status = .faulted e) :
    step s = .fault (.notRunning e s) := by
  rw [step, hs]

/-- R121, of the state whose fetch it is. -/
theorem fetch8_of_read {s : State} {v : Byte} (h : s.bus.read s.pc = .ok v) (k : Byte → State → Result) :
    fetch8 s k = k v (s.setPc (s.pc + 1)) := by
  obtain ⟨hok, rfl⟩ := Bus.read_eq_ok.1 h
  exact fetch8_of_ok hok k

/-- R122. -/
theorem fetch16_of_read {s : State} {lo hi : Byte} (hlo : s.bus.read s.pc = .ok lo)
    (hhi : s.bus.read (s.pc + 1) = .ok hi) (k : Word → State → Result) :
    fetch16 s k = k (joinBytes hi lo) (s.setPc (s.pc + 2)) := by
  simp only [fetch16, readWordThen, Bus.readWord, hlo, hhi]

/-- R122: a failed 16-bit fetch raises the error of the first read that fails, PC unchanged. -/
theorem fetch16_of_error {s : State} {e : FatalError} (h : s.bus.readWord s.pc = .error e)
    (k : Word → State → Result) : fetch16 s k = raise e s := by
  simp only [fetch16, readWordThen, h]

section Running

variable {s : State} (hs : s.status = .running)
include hs

theorem step_of_fetch_error {e : FatalError} (h : s.bus.read s.pc = .error e) : step s = raise e s := by
  rw [step_of_running hs, fetchInstr, fetch8_of_error (Bus.read_eq_error.1 h)]

variable {op : Byte} (hop : s.bus.read s.pc = .ok op)
include hop

/-- R101, R231: a first byte without a row. -/
theorem step_of_no_row (hp : primary op = none) :
    step s = raise (.unimplementedOpcode .primary op) (s.setPc (s.pc + 1)) := by
  rw [step_of_running hs, fetchInstr, fetch8_of_read hop, hp]

theorem step_of_op {i : Instr} (hp : primary op = some (.op i)) :
    step s = exec i (s.setPc (s.pc + 1)) := by
  rw [step_of_running hs, fetchInstr, fetch8_of_read hop, hp]

theorem step_of_byte_error {mk : Byte → Instr} (hp : primary op = some (.byte mk)) {e : FatalError}
    (hv : s.bus.read (s.pc + 1) = .error e) : step s = raise e (s.setPc (s.pc + 1)) := by
  rw [step_of_running hs, fetchInstr, fetch8_of_read hop, hp]
  exact fetch8_of_error (Bus.read_eq_error.1 hv) _

theorem step_of_byte {mk : Byte → Instr} (hp : primary op = some (.byte mk)) {v : Byte}
    (hv : s.bus.read (s.pc + 1) = .ok v) : step s = exec (mk v) (s.setPc (s.pc + 2)) := by
  rw [step_of_running hs, fetchInstr, fetch8_of_read hop, hp, show s.pc + 2 = s.pc + 1 + 1 by bv_omega]
  exact fetch8_of_read hv _

theorem step_of_word_error {mk : Word → Instr} (hp : primary op = some (.word mk)) {e : FatalError}
    (hv : s.bus.readWord (s.pc + 1) = .error e) : step s = raise e (s.setPc (s.pc + 1)) := by
  rw [step_of_running hs, fetchInstr, fetch8_of_read hop, hp]
  exact fetch16_of_error hv _

theorem step_of_word {mk : Word → Instr} (hp : primary op = some (.word mk)) {lo hi : Byte}
    (hlo : s.bus.read (s.pc + 1) = .ok lo) (hhi : s.bus.read (s.pc + 2) = .ok hi) :
    step s = exec (mk (joinBytes hi lo)) (s.setPc (s.pc + 3)) := by
  rw [show s.pc + 2 = s.pc + 1 + 1 by bv_omega] at hhi
  rw [step_of_running hs, fetchInstr, fetch8_of_read hop, hp, show s.pc + 3 = s.pc + 1 + 2 by bv_omega]
  exact fetch16_of_read hlo hhi _

end Running

/-- Settles O20: the fetches of each form read the bytes that decoding consumes. -/
theorem stepRunsTheDecodedInstruction : Obligations.StepRunsTheDecodedInstruction := by
  intro s bs i hs hdecode hbytes
  obtain ⟨op, hp, rfl⟩ | ⟨op, mk, v, hp, rfl, rfl⟩ | ⟨op, mk, lo, hi, hp, rfl, rfl⟩ := decode_eq_ok hdecode
  · obtain ⟨hop, -⟩ := hbytes
    exact step_of_op hs hop hp
  · obtain ⟨hop, hv, -⟩ := hbytes
    exact step_of_byte hs hop hp hv
  · obtain ⟨hop, hlo, hhi, -⟩ := hbytes
    rw [show s.pc + 1 + 1 = s.pc + 2 by bv_omega] at hhi
    exact step_of_word hs hop hp hlo hhi

/-- R64: the high byte's failure is the word's, with its own address. -/
theorem Bus.readWord_eq_error {b : Bus} {a : Word} {e : FatalError}
    (h : b.read a = .error e ∨ ∃ lo, b.read a = .ok lo ∧ b.read (a + 1) = .error e) :
    b.readWord a = .error e := by
  obtain ⟨-, hfirst, hsecond⟩ := wordReadIsLittleEndian b a
  rcases h with hlo | ⟨lo, hlo, hhi⟩
  · exact hfirst e hlo
  · exact hsecond lo e hlo hhi

/-- R232: a failed read raises an unmapped access of its own address. -/
theorem Bus.read_error_eq {b : Bus} {a : Word} {e : FatalError} (h : b.read a = .error e) :
    e = .unmappedAccess a :=
  Bus.readError_eq_some (Bus.read_eq_error.1 h)

/-- Settles O22, by which of the fetches fails. -/
theorem failedFetchesLeavePcAtTheFetch : Obligations.FailedFetchesLeavePcAtTheFetch := by
  intro s hs
  refine ⟨fun e hfetch => ?opcode, fun op e hop hfetch hmem => ?second,
    fun op lo e hop hlo hfetch hmem => ?third⟩
  case opcode =>
    obtain rfl := Bus.read_error_eq hfetch
    exact step_of_fetch_error hs hfetch
  case second =>
    obtain rfl := Bus.read_error_eq hfetch
    obtain hbyte | hword := List.mem_append.1 (show op ∈ byteOpcodes ++ wordOpcodes from hmem)
    · obtain ⟨mk, hp⟩ := exists_byte_of_mem hbyte
      exact step_of_byte_error hs hop hp hfetch
    · obtain ⟨mk, hp⟩ := exists_word_of_mem hword
      exact step_of_word_error hs hop hp (Bus.readWord_eq_error (.inl hfetch))
  case third =>
    obtain rfl := Bus.read_error_eq hfetch
    obtain ⟨mk, hp⟩ := exists_word_of_mem hmem
    rw [show s.pc + 2 = s.pc + 1 + 1 by bv_omega] at hfetch ⊢
    exact step_of_word_error hs hop hp (Bus.readWord_eq_error (.inr ⟨lo, hlo, hfetch⟩))

/-! ### Opcodes without a handler (R101, R231) -/

/-- R101: each listed value is a row of no family of the primary table. -/
theorem primary_of_unimplemented : ∀ op ∈ unimplementedPrimaryValues, primary op = none := by
  have table : ∀ op ∈ unimplementedPrimaryValues, (primary op).isNone = true := by decide
  exact fun op hop => Option.isNone_iff_eq_none.1 (table op hop)

/-- R101: the sub-opcodes 0x20 to 0x3F stay the escape's own, by their fields. -/
theorem sub_fields_of_unimplemented : ∀ sub : Byte, 0x20#8 ≤ sub → sub < 0x40#8 →
    (field76 sub).toNat = 0 ∧ 4 ≤ (field53 sub).toNat := by decide

/-- R125, R231: the escape stops where the sub-opcode has no row. -/
theorem execCbPrefix_of_unimplemented {sub : Byte} (hlo : 0x20#8 ≤ sub) (hhi : sub < 0x40#8) (s : State) :
    execCbPrefix sub s = raise (.unimplementedOpcode .secondary sub) s := by
  obtain ⟨h76, h53⟩ := sub_fields_of_unimplemented sub hlo hhi
  unfold execCbPrefix
  simp only [h76]
  split
  · omega
  · omega
  · omega
  · omega
  · rfl

/-- Settles O21: the first byte, or the byte after 0xCB, is looked up in vain. -/
theorem unimplementedOpcodesAreFatal : Obligations.UnimplementedOpcodesAreFatal := by
  refine fun s hs => ⟨fun op hop hmem => ?_, fun sub hop hsub hlo hle => ?_⟩
  · exact step_of_no_row hs hop (primary_of_unimplemented op hmem)
  · have hhi : sub < 0x40#8 := by bv_omega
    have hself : secondary sub = .cbPrefix sub :=
      Laws.RoundTrip.of_sub sub (by simp [subUnimplemented, hlo, hhi])
    rw [step_of_byte hs hop (mk := secondary) rfl hsub, hself]
    exact execCbPrefix_of_unimplemented hlo hhi _

/-! ### What a step can answer (R126, R132, R236) -/

/-- R141: what follows a 16-bit immediate's opcode is LD rr,d16. -/
theorem primary_word {op : Byte} {mk : Word → Instr} (h : primary op = some (.word mk)) :
    ∃ rr, mk = Instr.ldPairImm rr := by
  have hop := mem_wordOpcodes h
  simp only [wordOpcodes, List.mem_cons, List.not_mem_nil, or_false] at hop
  rcases hop with rfl | rfl | rfl | rfl <;> cases h <;> exact ⟨_, rfl⟩

/-- R141: LD rr,d16 completes. -/
theorem exec_ldPairImm (rr : Dest16) (v : Word) (s : State) :
    exec (Instr.ldPairImm rr v) s = loadImmediate16 rr v s := by
  cases rr <;> rfl

/-- A step of a running machine runs an instruction, or stops in a fetch or the lookup. -/
theorem step_cases {s : State} (hs : s.status = .running) :
    (∃ i pc, step s = exec i (s.setPc pc) ∧
      ((∃ k ≤ 2, pc = s.pc + BitVec.ofNat 16 k) ∨ ∃ rr v, i = Instr.ldPairImm rr v)) ∨
    ∃ k ≤ 2, ∃ e, step s = raise e (s.setPc (s.pc + BitVec.ofNat 16 k)) := by
  cases hop : s.bus.read s.pc with
  | error e => exact .inr ⟨0, by omega, e, by simpa using step_of_fetch_error hs hop⟩
  | ok op =>
    cases hp : primary op with
    | none => exact .inr ⟨1, by omega, _, step_of_no_row hs hop hp⟩
    | some form =>
      cases form with
      | op i => exact .inl ⟨i, _, step_of_op hs hop hp, .inl ⟨1, by omega, rfl⟩⟩
      | byte mk =>
        cases hv : s.bus.read (s.pc + 1) with
        | error e => exact .inr ⟨1, by omega, e, step_of_byte_error hs hop hp hv⟩
        | ok v => exact .inl ⟨mk v, _, step_of_byte hs hop hp hv, .inl ⟨2, by omega, rfl⟩⟩
      | word mk =>
        obtain ⟨rr, rfl⟩ := primary_word hp
        cases hlo : s.bus.read (s.pc + 1) with
        | error e =>
          exact .inr ⟨1, by omega, e, step_of_word_error hs hop hp (Bus.readWord_eq_error (.inl hlo))⟩
        | ok lo =>
          cases hhi : s.bus.read (s.pc + 2) with
          | error e =>
            rw [show s.pc + 2 = s.pc + 1 + 1 by bv_omega] at hhi
            exact .inr ⟨1, by omega, e,
              step_of_word_error hs hop hp (Bus.readWord_eq_error (.inr ⟨lo, hlo, hhi⟩))⟩
          | ok hi => exact .inl ⟨_, _, step_of_word hs hop hp hlo hhi, .inr ⟨rr, _, rfl⟩⟩

/-- R236: a step of a running machine completes, or raises an error at most two bytes on. -/
theorem step_next_or_raise {s : State} (hs : s.status = .running) :
    (∃ t, step s = .next t) ∨ ∃ k ≤ 2, ∃ e, step s = raise e (s.setPc (s.pc + BitVec.ofNat 16 k)) := by
  obtain ⟨i, pc, hstep, ⟨k, hk, rfl⟩ | ⟨rr, v, rfl⟩⟩ | hraise := step_cases hs
  · rw [hstep]
    exact (exec_completesOrRaises i _).imp id fun ⟨e, he⟩ => ⟨k, hk, e, he⟩
  · exact .inl ⟨_, hstep.trans (exec_ldPairImm rr v _)⟩
  · exact .inr hraise

/-- A completed step is a completed instruction of a running machine, with PC moved on. -/
theorem step_eq_next {s t : State} (h : step s = .next t) :
    s.status = .running ∧ ∃ i pc, exec i (s.setPc pc) = .next t := by
  cases hs : s.status with
  | faulted e => cases (step_of_faulted hs).symm.trans h
  | running =>
    obtain ⟨i, pc, hstep, -⟩ | ⟨k, -, e, hraise⟩ := step_cases hs
    · exact ⟨rfl, i, pc, hstep.symm.trans h⟩
    · exact absurd (hraise.symm.trans h) (raise_ne_next _ _ _)

/-- Settles O23: the error raised is the one answered, with the machine it reached. -/
theorem failedStepsLeaveAllButPc : Obligations.FailedStepsLeaveAllButPc := by
  intro s hs
  obtain ⟨t, ht⟩ | ⟨k, hk, e, he⟩ := step_next_or_raise hs
  · simp [ht]
  · rw [he]
    cases e with
    | unimplementedOpcode t byte =>
      exact ⟨fun _ _ _ h => by cases h; exact ⟨k, hk, rfl⟩, nofun, nofun, nofun, nofun⟩
    | unmappedAccess a =>
      exact ⟨nofun, fun _ _ h => by cases h; exact ⟨k, hk, rfl⟩, nofun, nofun, nofun⟩
    | readOnlyViolation a =>
      exact ⟨nofun, nofun, fun _ _ h => by cases h; exact ⟨k, hk, rfl⟩, nofun, nofun⟩

/-- Settles O24: the step answers `notRunning`, so no run gets past it. -/
theorem faultedMachineTakesNoStep : Obligations.FaultedMachineTakesNoStep := by
  intro s e hs
  refine ⟨step_of_faulted hs, fun n t ⟨u, hstep, _⟩ => ?_⟩
  cases (step_of_faulted hs).symm.trans hstep

/-- Settles O25, by the three errors in turn. -/
theorem raisingLeavesTheMachineReached : Obligations.RaisingLeavesTheMachineReached :=
  fun _ => ⟨fun _ _ => rfl, fun _ => rfl, fun _ => rfl⟩

end Sys2Proof.Machine
end

section
/-! SUPPORT and PROOFS. What every instruction and every step keeps: PC, the status, the cost in cycles
(40_step_engine.md R127), the memory invariant (20_memory.md R60, R76) and the bus parameters (R72). -/

namespace Sys2Proof.Machine

/-! ### What a completed instruction leaves (R127, R172, R267) -/

/-- A completed instruction leaves PC at `pc`, keeps the status, and takes 4 to 16 cycles. -/
structure Completed (pc : Word) (s t : State) : Prop where
  pc_eq : t.pc = pc
  status_eq : t.status = s.status
  cycles_ge : s.cycles + 4 ≤ t.cycles
  cycles_le : t.cycles ≤ s.cycles + 16

/-- A handler that wrote registers, F or the bus, and adds a cost in bounds. -/
theorem Completed.of_addCycles {pc : Word} {s u : State} {n : Nat} (hpc : u.pc = pc)
    (hstatus : u.status = s.status) (hcycles : u.cycles = s.cycles) (hn : 4 ≤ n ∧ n ≤ 16) :
    Completed pc s (u.addCycles n) where
  pc_eq := hpc
  status_eq := hstatus
  cycles_ge := by rw [State.addCycles_cycles, hcycles]; omega
  cycles_le := by rw [State.addCycles_cycles, hcycles]; omega

/-- D7, log 9: 12 or 16 cycles. -/
theorem cycBitHl_cases : Config.cycBitHl = 12 ∨ Config.cycBitHl = 16 := by
  unfold Config.cycBitHl
  split
  · exact .inr rfl
  · exact .inl rfl

theorem loadImmediate_completed {z : Operand} {v : Byte} {cost : Nat} {s t : State}
    (hcost : 4 ≤ cost ∧ cost ≤ 16) (h : loadImmediate z v cost s = .next t) : Completed s.pc s t := by
  obtain ⟨r, -, rfl⟩ | ⟨-, -, rfl⟩ := loadImmediate_eq_next.1 h
  · exact .of_addCycles (by simp) (by simp) (by simp) hcost
  · exact .of_addCycles rfl rfl rfl hcost

theorem copyOperand_completed {dst src : Operand} {cost : Nat} {s t : State}
    (hcost : 4 ≤ cost ∧ cost ≤ 16) (h : copyOperand dst src cost s = .next t) : Completed s.pc s t := by
  obtain ⟨v, -, -, ⟨r, -, rfl⟩ | ⟨-, -, rfl⟩⟩ := copyOperand_eq_next.1 h
  · exact .of_addCycles (by simp) (by simp) (by simp) hcost
  · exact .of_addCycles rfl rfl rfl hcost

theorem modifyOperand_completed {z : Operand} {res flags : Byte → Byte} {s t : State}
    (h : modifyOperand z res flags s = .next t) : Completed s.pc s t := by
  obtain ⟨r, -, rfl⟩ | ⟨-, -, -, rfl⟩ := modifyOperand_eq_next.1 h
  · exact .of_addCycles (by simp) (by simp) (by simp) (by omega)
  · exact .of_addCycles rfl rfl rfl (by omega)

theorem testBit_completed {n : Fin 8} {z : Operand} {s t : State} (h : testBit n z s = .next t) :
    Completed s.pc s t := by
  obtain ⟨r, -, rfl⟩ | ⟨-, -, rfl⟩ := testBit_eq_next.1 h
  · exact .of_addCycles rfl rfl rfl (by omega)
  · have := cycBitHl_cases
    exact .of_addCycles rfl rfl rfl (by omega)

theorem storeAStepHl_completed {delta : Word} {s t : State} (h : storeAStepHl delta s = .next t) :
    Completed s.pc s t := by
  obtain ⟨-, rfl⟩ := storeAStepHl_eq_next.1 h
  exact .of_addCycles rfl rfl rfl (by omega)

/-- R170, R171: a branch not taken keeps PC; a taken one, where Z is clear, adds the displacement. -/
theorem execJrNzE8_completed {e : Byte} {s t : State} (h : execJrNzE8 e s = .next t) :
    Completed s.pc s t ∨ (s.f.getLsbD 7 = false ∧ Completed (s.pc + sext16 e) s t) := by
  unfold execJrNzE8 at h
  split at h
  · obtain rfl := (complete_eq_next _ _ _).1 h
    exact .inl (.of_addCycles rfl rfl rfl (by omega))
  · next hz =>
    obtain rfl := (complete_eq_next _ _ _).1 h
    exact .inr ⟨Bool.eq_false_iff.2 hz, .of_addCycles rfl rfl rfl (by omega)⟩

/-- R172: a completed instruction keeps PC, unless it is a taken JR NZ. -/
def CompletedBy (i : Instr) (s t : State) : Prop :=
  Completed s.pc s t ∨ ∃ e, i = .jrNzE8 e ∧ s.f.getLsbD 7 = false ∧ Completed (s.pc + sext16 e) s t

theorem exec_completed (i : Instr) : ∀ {s t : State}, exec i s = .next t → CompletedBy i s t := by
  refine exec_cases (P := fun i run => ∀ {s t : State}, run s = .next t → CompletedBy i s t)
    ?nop ?imm16 ?imm8 ?copy ?stepHl ?jr ?logic ?rotate ?test ?reset ?set ?escape i
  case nop =>
    intro s t h
    obtain rfl := (complete_eq_next _ _ _).1 h
    exact .inl (.of_addCycles rfl rfl rfl (by omega))
  case imm16 =>
    intro rr v s t h
    obtain rfl := (complete_eq_next _ _ _).1 h
    exact .inl (.of_addCycles (by simp) (by simp) (by simp) (by omega))
  case imm8 => exact fun _ _ _ cost _ hcost _ _ h => .inl (loadImmediate_completed (by omega) h)
  case copy => exact fun _ _ _ cost _ hcost _ _ h => .inl (copyOperand_completed (by omega) h)
  case stepHl => exact fun _ _ _ _ _ h => .inl (storeAStepHl_completed h)
  case jr => exact fun e _ _ h => (execJrNzE8_completed h).imp id fun hjump => ⟨e, rfl, hjump⟩
  case logic =>
    intro _ op r _ s t h
    obtain rfl := (complete_eq_next _ _ _).1 h
    exact .inl (.of_addCycles rfl rfl rfl (by omega))
  case rotate => exact fun _ _ _ _ _ _ h => .inl (modifyOperand_completed h)
  case test => exact fun _ _ _ _ _ _ h => .inl (testBit_completed h)
  case reset => exact fun _ _ _ _ _ _ h => .inl (modifyOperand_completed h)
  case set => exact fun _ _ _ _ _ _ h => .inl (modifyOperand_completed h)
  case escape => exact fun _ s t h => absurd h (raise_ne_next _ s t)

/-- Wherever PC ends, a completed instruction keeps the status and takes 4 to 16 cycles. -/
theorem exists_completed {i : Instr} {s t : State} (h : exec i s = .next t) : ∃ pc, Completed pc s t := by
  obtain hkept | ⟨e, -, -, hjump⟩ := exec_completed i h
  · exact ⟨_, hkept⟩
  · exact ⟨_, hjump⟩

/-- Settles O34, by what each shape leaves in PC. -/
theorem onlyTakenJrNzChangesPc : Obligations.OnlyTakenJrNzChangesPc := fun i _ _ h =>
  (exec_completed i h).imp (·.pc_eq) fun ⟨e, hi, hz, hjump⟩ => ⟨e, hi, hz, hjump.pc_eq⟩

/-- Settles O26: a completed step is a completed instruction, and the fetches take no cycles. -/
theorem completedStepsGrowTheCycleCounter : Obligations.CompletedStepsGrowTheCycleCounter := by
  intro s t h
  obtain ⟨-, i, pc, hexec⟩ := step_eq_next h
  obtain ⟨_, hdone⟩ := exists_completed hexec
  exact ⟨hdone.cycles_ge, hdone.cycles_le⟩

/-! ### The cycle counter is not read (R40, R266) -/

/-- R266: the core reads no `cycles`, and additions to it commute. -/
theorem unread_addCycles (k : Nat) : Unread (·.addCycles k) where
  getReg s := s.getReg_addCycles k
  f _ := rfl
  pc _ := rfl
  bus _ := rfl
  setReg _ r _ := by cases r <;> rfl
  setF _ _ := rfl
  setPc _ _ := rfl
  setBus _ _ := rfl
  addCycles s n := by simp only [State.addCycles, Nat.add_right_comm s.cycles]
  fail _ _ := rfl

/-- Settles O33: `k` cycles more are a change no instruction reads. -/
theorem noInstructionReadsTheCycleCounter : Obligations.NoInstructionReadsTheCycleCounter :=
  fun i s k => (unread_addCycles k).commutes_exec i (fun _ _ _ => rfl) s

/-! ### What a step leaves of the bus -/

/-- R65: a completed step leaves the bus alone or writes one byte at the address HL holds. -/
theorem step_bus {s t : State} (h : step s = .next t) :
    t.bus = s.bus ∨ ∃ v, s.bus.writeError s.hl v = none ∧ t.bus = s.bus.stored s.hl v := by
  obtain ⟨-, i, pc, hexec⟩ := step_eq_next h
  refine (atMostOneByteIsStored i _ _ hexec).imp id fun ⟨v, hw⟩ => ⟨v, ?_⟩
  exact Bus.write_eq_ok.1 hw

/-- Settles O27: the one store of a step keeps the canonical form. -/
theorem stepKeepsTheInvariant : Obligations.StepKeepsTheInvariant := by
  intro s t hinv h
  unfold Invariant
  obtain hbus | ⟨v, -, hbus⟩ := step_bus h <;> rw [hbus]
  · exact hinv
  · exact Bus.stored_wf hinv s.hl v

/-- R71: the address of the control register is the policy's. -/
theorem Bus.policy_of_isBootCtrl {b : Bus} {a : Word} (h : b.isBootCtrl a = true) :
    b.policy.bootCtrl = some a := by
  rw [Bus.isBootCtrl, Bool.and_eq_true, beq_iff_eq] at h
  exact h.2

/-- Settles O29: a store keeps the parameters, and unmaps the image only through the register. -/
theorem stepsKeepTheBusParameters : Obligations.StepsKeepTheBusParameters := by
  intro s t h
  have hstatus : t.status = .running := by
    obtain ⟨hs, i, pc, hexec⟩ := step_eq_next h
    obtain ⟨_, hdone⟩ := exists_completed hexec
    exact hdone.status_eq.trans hs
  obtain hbus | ⟨v, -, hbus⟩ := step_bus h <;> rw [hbus]
  · exact ⟨rfl, rfl, id, fun hm hu => absurd hm (by simp [hu]), hstatus⟩
  · refine ⟨rfl, rfl, fun hm => by simp [hm], fun hm hu => ?_, hstatus⟩
    rw [← Bool.not_eq_true, Bus.stored_bootMapped_iff, not_and, not_not] at hu
    exact Bus.policy_of_isBootCtrl (hu hm).1

/-! ### Runs (R130, R247) -/

theorem runsTo_add (n m : Nat) (s t : State) :
    RunsTo (n + m) s t ↔ ∃ u, RunsTo n s u ∧ RunsTo m u t := by
  induction n generalizing s with
  | zero => simp [RunsTo]
  | succ n ih =>
    rw [Nat.succ_add]
    constructor
    · rintro ⟨v, hstep, hrun⟩
      obtain ⟨u, hn, hm⟩ := (ih v).1 hrun
      exact ⟨u, ⟨v, hstep, hn⟩, hm⟩
    · rintro ⟨u, ⟨v, hstep, hn⟩, hm⟩
      exact ⟨v, hstep, (ih v).2 ⟨u, hn, hm⟩⟩

theorem RunsTo.unique {n : Nat} {s t u : State} (ht : RunsTo n s t) (hu : RunsTo n s u) : t = u := by
  induction n generalizing s with
  | zero => exact Eq.trans ht (Eq.symm hu)
  | succ n ih =>
    obtain ⟨v, hv, ht⟩ := ht
    obtain ⟨w, hw, hu⟩ := hu
    cases hv.symm.trans hw
    exact ih ht hu

/-- R60, R76, R267: along a run the invariant holds, and each step costs at least 4 cycles. -/
theorem RunsTo.invariant_cycles {n : Nat} {s t : State} (hinv : Invariant s) (h : RunsTo n s t) :
    Invariant t ∧ s.cycles + 4 * n ≤ t.cycles := by
  induction n generalizing s with
  | zero =>
    obtain rfl : t = s := h
    exact ⟨hinv, le_rfl⟩
  | succ n ih =>
    obtain ⟨u, hstep, hrun⟩ := h
    obtain ⟨hcost, -⟩ := completedStepsGrowTheCycleCounter s u hstep
    obtain ⟨hinv', hcosts⟩ := ih (stepKeepsTheInvariant s u hinv hstep) hrun
    exact ⟨hinv', by omega⟩

/-- Settles O30, by induction on the number of steps. -/
theorem runsCompose : Obligations.RunsCompose :=
  ⟨runsTo_add, fun _ _ _ _ => RunsTo.unique, fun _ _ _ => RunsTo.invariant_cycles⟩

end Sys2Proof.Machine
end

section
/-! SUPPORT and PROOFS. What NOP, the loads, JR NZ, XOR, OR and BIT do (41_loads.md to 44_cb_bit.md):
the meaning of each family is one of the shared shapes, and the shapes are what the statements write out. -/

namespace Sys2Proof.Machine

/-! ### The loads (R140 to R149) -/

theorem exec_ldRegImm (r : Reg8) (v : Byte) (s : State) :
    exec (Instr.ldRegImm r v) s = .next ((s.setReg r v).addCycles 8) := by cases r <;> rfl

theorem exec_ldRegReg (dst src : Reg8) (s : State) :
    exec (Instr.ldRegReg dst src) s = .next ((s.setReg dst (s.getReg src)).addCycles 4) := by
  cases dst <;> cases src <;> rfl

theorem exec_ldRegMem (dst : Reg8) (s : State) :
    exec (Instr.ldRegMem dst) s = copyOperand (.reg dst) .mem 8 s := by cases dst <;> rfl

theorem exec_ldMemReg (src : Reg8) (s : State) :
    exec (Instr.ldMemReg src) s = loadImmediate .mem (s.getReg src) 8 s := by cases src <;> rfl

/-- R143, R146: a store of one byte at HL. -/
theorem loadImmediate_mem {v : Byte} {s : State} (h : s.bus.writeError s.hl v = none) (cost : Nat) :
    loadImmediate .mem v cost s = .next { s with bus := s.bus.stored s.hl v, cycles := s.cycles + cost } :=
  writeThen_of_ok h _

theorem loadImmediate_error {v : Byte} {s : State} {e : FatalError} (h : s.bus.writeError s.hl v = some e)
    (cost : Nat) : loadImmediate .mem v cost s = raise e s :=
  writeThen_of_error h _

/-- R148, R149: the store at the old HL, then the step of HL. -/
theorem storeAStepHl_of_ok {s : State} (h : s.bus.writeError s.hl s.a = none) (delta : Word) :
    storeAStepHl delta s = .next { s with
      bus := s.bus.stored s.hl s.a, h := highByte (s.hl + delta), l := lowByte (s.hl + delta),
      cycles := s.cycles + 8 } :=
  writeThen_of_ok h _

theorem storeAStepHl_of_error {s : State} {e : FatalError} (h : s.bus.writeError s.hl s.a = some e)
    (delta : Word) : storeAStepHl delta s = raise e s :=
  writeThen_of_error h _

/-- Settles O36: NOP's row is its one byte. -/
theorem nopAdvancesPcAndCycles : Obligations.NopAdvancesPcAndCycles :=
  ⟨rfl, fun _ => rfl, fun _ hs hop => step_of_op hs hop rfl, fun _ _ hs => step_of_fetch_error hs⟩

/-- Settles O37, by what each destination's write does. -/
theorem ldPairImmediateLoadsBothHalves : Obligations.LdPairImmediateLoadsBothHalves :=
  fun v s => ⟨exec_ldPairImm .bc v s, exec_ldPairImm .de v s, exec_ldPairImm .hl v s, exec_ldPairImm .sp v s⟩

/-- Settles O38, register by register. -/
theorem ldImmediateLoadsTheRegister : Obligations.LdImmediateLoadsTheRegister :=
  fun v s => ⟨exec_ldRegImm .b v s, exec_ldRegImm .c v s, exec_ldRegImm .d v s, exec_ldRegImm .e v s,
    exec_ldRegImm .h v s, exec_ldRegImm .l v s, exec_ldRegImm .a v s⟩

/-- Settles O39, by whether the bus accepts the write. -/
theorem ldMemImmediateStoresAtHl : Obligations.LdMemImmediateStoresAtHl :=
  fun _ _ => ⟨fun h => loadImmediate_mem h 12, fun _ h => loadImmediate_error h 12⟩

/-- Settles O40, cell by cell of the copy matrix. -/
theorem ldRegisterCopies : Obligations.LdRegisterCopies := exec_ldRegReg

/-- Settles O41, by whether the bus gives the byte. -/
theorem ldFromHlLoadsTheRegister : Obligations.LdFromHlLoadsTheRegister := by
  intro dst s
  rw [exec_ldRegMem]
  exact ⟨fun h => readThen_of_ok h _, fun e h => readThen_of_error h _⟩

/-- Settles O42, by whether the bus accepts the write. -/
theorem ldToHlStoresTheRegister : Obligations.LdToHlStoresTheRegister := by
  intro src s
  rw [exec_ldMemReg]
  exact ⟨fun h => loadImmediate_mem h 8, fun e h => loadImmediate_error h 8⟩

/-- Settles O43, by whether the bus accepts the write. -/
theorem ldHlStepStoresAThenMovesHl : Obligations.LdHlStepStoresAThenMovesHl := by
  intro s
  refine ⟨fun h => ⟨storeAStepHl_of_ok h 1, ?_⟩,
    fun e h => ⟨storeAStepHl_of_error h 1, storeAStepHl_of_error h (-1)⟩⟩
  rw [BitVec.sub_eq_add_neg]
  exact storeAStepHl_of_ok h (-1)

/-! ### The branch (R170, R171) -/

/-- R97, R171: the target is PC plus the signed displacement modulo 2^16. -/
theorem add_sext16 (pc : Word) (e : Byte) : pc + sext16 e = BitVec.ofInt 16 (pc.toNat + e.toInt) := by
  rw [BitVec.ofInt_add, BitVec.ofInt_natCast, BitVec.ofNat_toNat, BitVec.setWidth_eq, sext16, BitVec.signExtend]

/-- Settles O44, by the branch on Z. -/
theorem jrNzBranchesWhenZIsClear : Obligations.JrNzBranchesWhenZIsClear := by
  intro e s
  have hexec : exec (.jrNzE8 e) s =
      if s.f.getLsbD 7 then complete 8 s else complete 12 (s.setPc (s.pc + sext16 e)) := rfl
  rw [← add_sext16, hexec]
  exact ⟨fun hz => by rw [hz]; rfl, fun hz => by rw [hz]; rfl⟩

/-! ### XOR and OR (R180, R181) -/

theorem exec_xorReg (r : Reg8) (s : State) : exec (Instr.xorReg r) s = logicA (· ^^^ ·) r s := by
  cases r <;> rfl

theorem exec_orReg (r : Reg8) (s : State) : exec (Instr.orReg r) s = logicA (· ||| ·) r s := by
  cases r <;> rfl

/-- R36, R180, R181: the F of a logic result. -/
theorem logicFlags_eq (res : Byte) : logicFlags res = if res = 0 then 0x80 else 0x00 := by
  by_cases h : res = 0
  · rw [h]; rfl
  · rw [logicFlags, beq_false_of_ne h, if_neg h]; rfl

theorem logicA_eq (op : Byte → Byte → Byte) (r : Reg8) (s : State) :
    logicA op r s = .next { s with
      a := op s.a (s.getReg r), f := if op s.a (s.getReg r) = 0 then 0x80 else 0x00,
      cycles := s.cycles + 4 } := by
  rw [← logicFlags_eq]
  rfl

/-- Settles O45; `a ^^^ a` is 0. -/
theorem xorWritesAAndF : Obligations.XorWritesAAndF := by
  refine ⟨fun r s => (exec_xorReg r s).trans (logicA_eq _ r s), fun s => ?_⟩
  have h : exec .xorA s = _ := (exec_xorReg .a s).trans (logicA_eq _ .a s)
  rw [h, State.getReg, BitVec.xor_self]
  rfl

/-- Settles O46; `a ||| a` is `a`. -/
theorem orWritesAAndF : Obligations.OrWritesAAndF := by
  refine ⟨fun r s => (exec_orReg r s).trans (logicA_eq _ r s), fun s => ?_⟩
  have h : exec .orA s = _ := (exec_orReg .a s).trans (logicA_eq _ .a s)
  rw [h, State.getReg, BitVec.or_self]

/-! ### BIT (R190, R191) -/

/-- R190: the F of a bit test, as a mask of the old one. -/
theorem bitTestFlags_eq (tested : Bool) : ∀ f : Byte,
    bitTestFlags tested f = (if tested then 0x80 else 0x00) ||| 0x20 ||| (f &&& 0x10) := by
  cases tested <;> decide

/-- R92, R100: BIT b's row is 0x40 + 8b + z. -/
theorem encode_bitOn : ∀ (n : Fin 8) (z : BitVec 3), WellFormed (Instr.bitOn n (Operand.ofCode z)) ∧
    encode (Instr.bitOn n (Operand.ofCode z)) = [0xCB, 0x40 + BitVec.ofNat 8 (8 * n.val + z.toNat)] := by
  decide

/-- Settles O47: the row by its encoding, the meaning by the flags of a bit test. -/
theorem bitTestsARegister : Obligations.BitTestsARegister := by
  refine ⟨fun n z _ => ?_, fun n r s => ?_⟩
  · obtain ⟨hwf, hbytes⟩ := encode_bitOn n z
    simpa only [hbytes, List.append_nil] using decode_encode _ hwf []
  · rw [exec_bitOn, ← bitTestFlags_eq]
    rfl

/-- Settles O48, by whether the bus gives the byte. -/
theorem bitTestsTheByteAtHl : Obligations.BitTestsTheByteAtHl := by
  refine ⟨cycBitHl_cases, fun n s => ?_⟩
  rw [exec_bitOn, ← bitTestFlags_eq]
  exact ⟨fun h => readThen_of_ok h _, fun e h => readThen_of_error h _⟩

end Sys2Proof.Machine
end

section
/-! SUPPORT and PROOFS. What RES, SET and the rotates do (44_cb_bit.md, 45_cb_rotate.md), the rotates that
undo each other (R218), and the CB escape (40_step_engine.md R125). -/

namespace Sys2Proof.Machine

/-! ### RES, SET and the rotates: what a read-modify-write does (R192 to R195, R210 to R217) -/

theorem exec_resOn (n : Fin 8) (z : Operand) (s : State) : exec (Instr.resOn n z) s = resetBit n z s := by
  fin_cases n <;> rcases z with ⟨_ | _ | _ | _ | _ | _ | _⟩ | _ <;> rfl

theorem exec_setOn (n : Fin 8) (z : Operand) (s : State) : exec (Instr.setOn n z) s = setBit n z s := by
  fin_cases n <;> rcases z with ⟨_ | _ | _ | _ | _ | _ | _⟩ | _ <;> rfl

theorem exec_rlcOn (z : Operand) (s : State) : exec (Instr.rlcOn z) s = rotateOperand .rlc z s := by
  rcases z with ⟨_ | _ | _ | _ | _ | _ | _⟩ | _ <;> rfl

theorem exec_rrcOn (z : Operand) (s : State) : exec (Instr.rrcOn z) s = rotateOperand .rrc z s := by
  rcases z with ⟨_ | _ | _ | _ | _ | _ | _⟩ | _ <;> rfl

theorem exec_rlOn (z : Operand) (s : State) : exec (Instr.rlOn z) s = rotateOperand .rl z s := by
  rcases z with ⟨_ | _ | _ | _ | _ | _ | _⟩ | _ <;> rfl

theorem exec_rrOn (z : Operand) (s : State) : exec (Instr.rrOn z) s = rotateOperand .rr z s := by
  rcases z with ⟨_ | _ | _ | _ | _ | _ | _⟩ | _ <;> rfl

/-- The outcomes of a read-modify-write on (HL), with the result and the flags of the byte there. -/
def ModifiesHl (s : State) (res flags : Byte) (result : Result) : Prop :=
  (s.bus.readError s.hl = none → s.bus.writeError s.hl res = none →
    result = .next { s with bus := s.bus.stored s.hl res, f := flags, cycles := s.cycles + 16 }) ∧
  (∀ e, s.bus.readError s.hl = some e → result = raise e s) ∧
  ∀ e, s.bus.readError s.hl = none → s.bus.writeError s.hl res = some e → result = raise e s

theorem modifyOperand_modifiesHl (res flags : Byte → Byte) (s : State) :
    ModifiesHl s (res (s.bus.byteAt s.hl)) (flags (s.bus.byteAt s.hl)) (modifyOperand .mem res flags s) :=
  ⟨fun hr hw => modifyOperand_mem hr hw flags, fun _ hr => modifyOperand_readError hr res flags,
    fun _ hr hw => modifyOperand_writeError hr hw flags⟩

/-- A read-modify-write of a register, with the fields it writes. -/
theorem modifyOperand_reg_eq (r : Reg8) (res flags : Byte → Byte) (s : State) :
    modifyOperand (.reg r) res flags s = .next { s.setReg r (res (s.getReg r)) with
      f := flags (s.getReg r), cycles := s.cycles + 8 } := by
  rw [modifyOperand_reg, State.addCycles, State.setF_cycles, State.setReg_cycles]
  rfl

/-- Settles O49: RES is the read-modify-write that clears the bit. -/
theorem resClearsTheBitAndF : Obligations.ResClearsTheBitAndF := by
  refine ⟨fun n r s => ?_, fun n s => ?_⟩
  · exact (exec_resOn n _ s).trans (modifyOperand_reg_eq r _ _ s)
  · rw [exec_resOn]
    exact modifyOperand_modifiesHl (clearBit n) (fun _ => bitChangeFlags) s

/-- Settles O50: SET is the read-modify-write that sets the bit. -/
theorem setSetsTheBitAndClearsF : Obligations.SetSetsTheBitAndClearsF := by
  refine ⟨fun n r s => ?_, fun n s => ?_⟩
  · exact (exec_setOn n _ s).trans (modifyOperand_reg_eq r _ _ s)
  · rw [exec_setOn]
    exact modifyOperand_modifiesHl (raiseBit n) (fun _ => bitChangeFlags) s

/-! ### The rotates (R210 to R218) -/

/-- R218: the F of a rotate. -/
theorem rotateFlags_eq (res : Byte) (out : Bool) :
    rotateFlags res out = (if res = 0 then 0x80 else 0x00) ||| (if out then 0x10 else 0x00) := by
  by_cases h : res = 0
  · rw [h]; cases out <;> rfl
  · rw [rotateFlags, beq_false_of_ne h, if_neg h]; cases out <;> rfl

/-! The result of each rotate, for all 256 operands and both values of C. -/

theorem Rotate.result_rlc : ∀ (v : Byte) (c : Bool), Rotate.rlc.result v c = v.rotateLeft 1 := by decide

theorem Rotate.result_rrc : ∀ (v : Byte) (c : Bool), Rotate.rrc.result v c = v.rotateRight 1 := by decide

theorem Rotate.result_rl : ∀ (v : Byte) (c : Bool),
    Rotate.rl.result v c = (v <<< 1) ||| (if c then 0x01 else 0x00) := by decide

theorem Rotate.result_rr : ∀ (v : Byte) (c : Bool),
    Rotate.rr.result v c = (v >>> 1) ||| (if c then 0x80 else 0x00) := by decide

/-- R210 to R218: a rotate of a register, its result and F written out. -/
theorem rotateOperand_reg (k : Rotate) (r : Reg8) (s : State) : rotateOperand k (.reg r) s = .next
    { s.setReg r (k.result (s.getReg r) (flagC s.f)) with
      f := (if k.result (s.getReg r) (flagC s.f) = 0 then 0x80 else 0x00) |||
        (if k.out (s.getReg r) then 0x10 else 0x00)
      cycles := s.cycles + 8 } := by
  rw [← rotateFlags_eq]
  exact modifyOperand_reg_eq r _ _ s

theorem rotateOperand_mem (k : Rotate) (s : State) :
    ModifiesHl s (k.result (s.bus.byteAt s.hl) (flagC s.f))
      ((if k.result (s.bus.byteAt s.hl) (flagC s.f) = 0 then 0x80 else 0x00) |||
        (if k.out (s.bus.byteAt s.hl) then 0x10 else 0x00))
      (rotateOperand k .mem s) := by
  rw [← rotateFlags_eq]
  exact modifyOperand_modifiesHl (fun v => k.result v (flagC s.f))
    (fun v => rotateFlags (k.result v (flagC s.f)) (k.out v)) s

/-- Settles O51: each rotate by its result. -/
theorem rotatesMoveARegisterByOneBit : Obligations.RotatesMoveARegisterByOneBit := by
  intro r s v c done
  refine ⟨?_, ?_, ?_, ?_⟩
  · rw [exec_rlcOn, rotateOperand_reg, Rotate.result_rlc]; rfl
  · rw [exec_rrcOn, rotateOperand_reg, Rotate.result_rrc]; rfl
  · rw [exec_rlOn, rotateOperand_reg, Rotate.result_rl]; rfl
  · rw [exec_rrOn, rotateOperand_reg, Rotate.result_rr]; rfl

/-- Settles O52: each rotate by its result. -/
theorem rotatesMoveTheByteAtHl : Obligations.RotatesMoveTheByteAtHl := by
  intro s v c rotates
  refine ⟨?_, ?_, ?_, ?_⟩
  · have h := rotateOperand_mem .rlc s
    rwa [Rotate.result_rlc] at h
  · have h := rotateOperand_mem .rrc s
    rwa [Rotate.result_rrc] at h
  · have h := rotateOperand_mem .rl s
    rwa [Rotate.result_rl] at h
  · have h := rotateOperand_mem .rr s
    rwa [Rotate.result_rr] at h

/-! ### Rotates undone (R210 to R218) -/

/-- The rotate of the same kind to the other side. -/
def Rotate.opposite : Rotate → Rotate
  | .rlc => .rrc
  | .rrc => .rlc
  | .rl => .rr
  | .rr => .rl

/-- The rotate back, with the bit rotated out as the old C, gives the operand. -/
theorem Rotate.opposite_result (k : Rotate) : ∀ (v : Byte) (c : Bool),
    k.opposite.result (k.result v c) (k.out v) = v := by
  cases k <;> decide

/-- A rotate back through C puts the first C out again. -/
theorem Rotate.rr_out_of_rl : ∀ (v : Byte) (c : Bool), Rotate.rr.out (Rotate.rl.result v c) = c := by decide

theorem Rotate.rl_out_of_rr : ∀ (v : Byte) (c : Bool), Rotate.rl.out (Rotate.rr.result v c) = c := by decide

theorem flagC_rotateFlags (res : Byte) (out : Bool) : flagC (rotateFlags res out) = out :=
  flagC_packFlags _ _ _ _

/-- A rotate of a register and the one to the other side give its value back. -/
theorem rotateOperand_opposite (k : Rotate) (r : Reg8) (s : State) :
    ∃ t u, rotateOperand k (.reg r) s = .next t ∧ rotateOperand k.opposite (.reg r) t = .next u ∧
      u.getReg r = s.getReg r ∧ flagC u.f = k.opposite.out (k.result (s.getReg r) (flagC s.f)) := by
  refine ⟨_, _, modifyOperand_reg r _ _ s, modifyOperand_reg r _ _ _, ?_, ?_⟩
  · simp [flagC_rotateFlags, Rotate.opposite_result]
  · simp [flagC_rotateFlags]

/-- Settles O53, by the two rotates of each kind. -/
theorem rotatesToTheOtherSideUndo : Obligations.RotatesToTheOtherSideUndo := by
  intro r s
  simp only [exec_rlcOn, exec_rrcOn, exec_rlOn, exec_rrOn]
  refine ⟨?_, ?_, ?_, ?_⟩
  · obtain ⟨t, u, ht, hu, hr, -⟩ := rotateOperand_opposite .rlc r s
    exact ⟨t, u, ht, hu, hr⟩
  · obtain ⟨t, u, ht, hu, hr, -⟩ := rotateOperand_opposite .rrc r s
    exact ⟨t, u, ht, hu, hr⟩
  · obtain ⟨t, u, ht, hu, hr, hc⟩ := rotateOperand_opposite .rl r s
    exact ⟨t, u, ht, hu, hr, hc.trans (Rotate.rr_out_of_rl _ _)⟩
  · obtain ⟨t, u, ht, hu, hr, hc⟩ := rotateOperand_opposite .rr r s
    exact ⟨t, u, ht, hu, hr, hc.trans (Rotate.rl_out_of_rr _ _)⟩

/-! ### The CB escape (R103, R125) -/

/-- R101: a sub-opcode of the rotate group with a row has `yyy` 000 to 011. -/
theorem sub_fields_of_row : ∀ sub : Byte, sub < 0x20#8 ∨ 0x40#8 ≤ sub →
    (field76 sub).toNat = 0 → (field53 sub).toNat < 4 := by decide

/-- R125: the escape runs the instruction that the secondary table has for the sub-opcode. -/
theorem exec_secondary {sub : Byte} (hrow : sub < 0x20#8 ∨ 0x40#8 ≤ sub) (s : State) :
    exec (secondary sub) s = execCbPrefix sub s := by
  have hkind := sub_fields_of_row sub hrow
  unfold secondary execCbPrefix
  generalize (field76 sub).toNat = group at hkind ⊢
  generalize (field53 sub).toNat = kind at hkind ⊢
  match group, kind with
  | 0, 0 => exact exec_rlcOn _ s
  | 0, 1 => exact exec_rrcOn _ s
  | 0, 2 => exact exec_rlOn _ s
  | 0, 3 => exact exec_rrOn _ s
  | 0, _ + 4 => have := hkind rfl; omega
  | 1, _ => exact exec_bitOn _ _ s
  | 2, _ => exact exec_resOn _ _ s
  | _ + 3, _ => exact exec_setOn _ _ s

/-- Settles O54: the decoder reads a well-formed instruction, which the escape's own is only without a
row. -/
theorem cbEscapeRunsTheSecondaryTable : Obligations.CbEscapeRunsTheSecondaryTable := by
  refine fun sub s => ⟨fun hrow => ⟨secondary sub, rfl, fun hself => ?_, (exec_secondary hrow s).symm⟩,
    fun hlo hhi => execCbPrefix_of_unimplemented hlo hhi s⟩
  have hwf : subUnimplemented sub = true := by
    have := (secondary_encodes sub).1
    rwa [hself] at this
  rw [subUnimplemented, Bool.and_eq_true, decide_eq_true_iff, decide_eq_true_iff] at hwf
  bv_omega

/-- R92: with a row, the escape is a read-modify-write or a bit test of the operand `zzz` names. -/
theorem execCbPrefix_of_row {sub : Byte} (hrow : sub < 0x20#8 ∨ 0x40#8 ≤ sub) (s : State) :
    (∃ res flags, execCbPrefix sub s = modifyOperand (Operand.ofCode (field20 sub)) res flags s) ∨
    ∃ n, execCbPrefix sub s = testBit n (Operand.ofCode (field20 sub)) s := by
  have hkind := sub_fields_of_row sub hrow
  unfold execCbPrefix
  generalize (field76 sub).toNat = group at hkind ⊢
  generalize (field53 sub).toNat = kind at hkind ⊢
  match group, kind with
  | 0, 0 => exact .inl ⟨_, _, rfl⟩
  | 0, 1 => exact .inl ⟨_, _, rfl⟩
  | 0, 2 => exact .inl ⟨_, _, rfl⟩
  | 0, 3 => exact .inl ⟨_, _, rfl⟩
  | 0, _ + 4 => have := hkind rfl; omega
  | 1, _ => exact .inr ⟨_, rfl⟩
  | 2, _ => exact .inl ⟨_, _, rfl⟩
  | _ + 3, _ => exact .inl ⟨_, _, rfl⟩

/-- R93: the code 6 is (HL)'s, and no other. -/
theorem operand_eq_mem_iff : ∀ sub : Byte,
    Operand.ofCode (field20 sub) = .mem ↔ sub &&& 0x07#8 = 0x06#8 := by decide

/-- Settles O55, by the operand and the shape of the row. -/
theorem cbEscapeCompletes : Obligations.CbEscapeCompletes := by
  intro sub s hrow
  have hexec : exec (.cbPrefix sub) s = execCbPrefix sub s := rfl
  rw [Ne, ← operand_eq_mem_iff sub, hexec]
  have hshape := execCbPrefix_of_row hrow s
  cases hz : Operand.ofCode (field20 sub) with
  | reg r =>
    refine ⟨fun _ => ?_, nofun⟩
    obtain ⟨res, flags, hmodify⟩ | ⟨n, htest⟩ := hshape
    · rw [hmodify, hz, modifyOperand_reg]
      exact ⟨_, rfl, by simp⟩
    · rw [htest, hz]
      exact ⟨_, rfl, rfl, rfl, rfl, rfl⟩
  | mem =>
    refine ⟨fun h => absurd rfl h, fun _ hread hwrite => ?_⟩
    obtain ⟨res, flags, hmodify⟩ | ⟨n, htest⟩ := hshape
    · rw [hmodify, hz, modifyOperand_mem hread (hwrite _)]
      exact ⟨_, rfl, by simp⟩
    · have hcost := cycBitHl_cases
      have hdone : testBit n .mem s = _ := readThen_of_ok hread _
      rw [htest, hz, hdone]
      refine ⟨_, rfl, ?_, ?_, rfl, rfl, by simp⟩
      all_goals
        rw [costOf, State.addCycles_cycles, State.setF_cycles]
        omega

end Sys2Proof.Machine
end

section
/-! SUPPORT and PROOFS. The frames: what each family leaves unchanged (10_state.md R35, 20_memory.md R66). -/

namespace Sys2Proof.Machine

/-! ### Frames of the forms that store nothing (R35, R66) -/

/-- Settles O56: each of the forms writes the register and adds its cost. -/
theorem registerLoadsChangeOneRegister : Obligations.RegisterLoadsChangeOneRegister := by
  intro i r s t hi h
  have hset : ∃ v n, t = (s.setReg r v).addCycles n := by
    obtain ⟨v, rfl⟩ | ⟨q, rfl⟩ | rfl := hi
    · rw [exec_ldRegImm] at h
      cases h
      exact ⟨_, _, rfl⟩
    · rw [exec_ldRegReg] at h
      cases h
      exact ⟨_, _, rfl⟩
    · rw [exec_ldRegMem] at h
      obtain ⟨v, -, -, ⟨q, hq, rfl⟩ | ⟨hmem, -⟩⟩ := copyOperand_eq_next.1 h
      · cases hq
        exact ⟨v, 8, rfl⟩
      · cases hmem
  obtain ⟨v, n, rfl⟩ := hset
  exact ⟨fun q hq => by simp [hq], by simp⟩

/-- R39, R170: a branch changes PC and `cycles`. -/
theorem execJrNzE8_eq_next {e : Byte} {s t : State} (h : execJrNzE8 e s = .next t) :
    ∃ pc n, t = (s.setPc pc).addCycles n := by
  unfold execJrNzE8 at h
  split at h
  · exact ⟨s.pc, 8, (complete_eq_next _ _ _).1 h⟩
  · exact ⟨_, 12, (complete_eq_next _ _ _).1 h⟩

/-- Settles O57, family by family. -/
theorem otherNonStoringFormsKeepTheRest : Obligations.OtherNonStoringFormsKeepTheRest := by
  refine fun i s t h => ⟨?branch, ?pair, ?logic, ?bit⟩
  case branch =>
    intro hi
    have hmoved : ∃ pc n, t = (s.setPc pc).addCycles n := by
      obtain rfl | ⟨e, rfl⟩ := hi
      · exact ⟨s.pc, 4, (complete_eq_next _ _ _).1 h⟩
      · exact execJrNzE8_eq_next h
    obtain ⟨pc, n, rfl⟩ := hmoved
    simp
  case pair =>
    rintro rr v rfl
    rw [exec_ldPairImm] at h
    obtain rfl := (complete_eq_next _ _ _).1 h
    refine ⟨by simp, by simp, by simp, by simp, ?_⟩
    cases rr <;> simp [State.setDest16, State.setHl]
  case logic =>
    intro r hi
    have hset : ∃ v f, t = ((s.setReg .a v).setF f).addCycles 4 := by
      obtain rfl | rfl := hi
      · rw [exec_xorReg] at h
        exact ⟨_, _, (complete_eq_next _ _ _).1 h⟩
      · rw [exec_orReg] at h
        exact ⟨_, _, (complete_eq_next _ _ _).1 h⟩
    obtain ⟨v, f, rfl⟩ := hset
    exact ⟨fun q hq => by simp [hq], by simp⟩
  case bit =>
    rintro n z rfl
    rw [exec_bitOn] at h
    obtain ⟨r, -, rfl⟩ | ⟨-, -, rfl⟩ := testBit_eq_next.1 h <;> simp

/-- Settles O58: each of the forms is a read-modify-write of the register. -/
theorem registerModifyFormsChangeOneRegisterAndF :
    Obligations.RegisterModifyFormsChangeOneRegisterAndF := by
  intro i r s t hi h
  have hmodify : ∃ res flags, modifyOperand (.reg r) res flags s = .next t := by
    obtain ⟨n, rfl | rfl⟩ | rfl | rfl | rfl | rfl := hi
    · exact ⟨_, _, (exec_resOn n _ s).symm.trans h⟩
    · exact ⟨_, _, (exec_setOn n _ s).symm.trans h⟩
    · exact ⟨_, _, (exec_rlcOn _ s).symm.trans h⟩
    · exact ⟨_, _, (exec_rrcOn _ s).symm.trans h⟩
    · exact ⟨_, _, (exec_rlOn _ s).symm.trans h⟩
    · exact ⟨_, _, (exec_rrOn _ s).symm.trans h⟩
  obtain ⟨res, flags, hmodify⟩ := hmodify
  cases (modifyOperand_reg r res flags s).symm.trans hmodify
  exact ⟨fun q hq => by simp [hq], by simp⟩

/-! ### The frame of the storing forms (R35, R63, R66) -/

/-- `t` is `s` with one byte stored at HL; SP, PC and the status are kept. -/
structure StoresAtHl (s t : State) : Prop where
  bus_eq : ∃ v, t.bus = s.bus.stored s.hl v
  sp_eq : t.sp = s.sp
  pc_eq : t.pc = s.pc
  status_eq : t.status = s.status

theorem loadImmediate_mem_stores {v : Byte} {cost : Nat} {s t : State}
    (h : loadImmediate .mem v cost s = .next t) : StoresAtHl s t ∧ ∀ q, t.getReg q = s.getReg q := by
  obtain ⟨r, hr, -⟩ | ⟨-, -, rfl⟩ := loadImmediate_eq_next.1 h
  · cases hr
  · exact ⟨⟨⟨v, rfl⟩, rfl, rfl, rfl⟩, by simp⟩

/-- R148, R149: of the registers, the step of HL changes H and L. -/
theorem storeAStepHl_stores_frame {delta : Word} {s t : State} (h : storeAStepHl delta s = .next t) :
    StoresAtHl s t ∧ ∀ q, (q = .h ∨ q = .l) ∨ t.getReg q = s.getReg q := by
  obtain ⟨-, rfl⟩ := storeAStepHl_eq_next.1 h
  refine ⟨⟨⟨s.a, rfl⟩, rfl, rfl, rfl⟩, fun q => ?_⟩
  by_cases hq : q = .h ∨ q = .l
  · exact .inl hq
  · simp only [not_or] at hq
    exact .inr (by simp [State.setHl, hq])

theorem modifyOperand_mem_stores {res flags : Byte → Byte} {s t : State}
    (h : modifyOperand .mem res flags s = .next t) : StoresAtHl s t ∧ ∀ q, t.getReg q = s.getReg q := by
  obtain ⟨r, hr, -⟩ | ⟨-, -, -, rfl⟩ := modifyOperand_eq_next.1 h
  · cases hr
  · exact ⟨⟨⟨_, rfl⟩, rfl, rfl, rfl⟩, by simp⟩

/-- R143, R146, R148, R149: the loads that store. -/
def StoringLoad (i : Instr) : Prop :=
  (∃ v, i = .ldMemD8 v) ∨ (∃ r, i = Instr.ldMemReg r) ∨ i = .ldHlIncA ∨ i = .ldHlDecA

/-- R193, R195, R211 to R217: the CB forms that store. -/
def StoringModify (i : Instr) : Prop :=
  (∃ n, i = Instr.resOn n .mem ∨ i = Instr.setOn n .mem) ∨ i = .rlcMem ∨ i = .rrcMem ∨ i = .rlMem ∨ i = .rrMem

/-- A storing load writes no flag, and no register but H and L where it steps HL. -/
theorem exec_storingLoad {i : Instr} {s t : State} (hi : StoringLoad i) (h : exec i s = .next t) :
    StoresAtHl s t ∧ firstByteWritesF i = false ∧
      ∀ q, (q = .h ∨ q = .l) ∧ (i = .ldHlIncA ∨ i = .ldHlDecA) ∨ t.getReg q = s.getReg q := by
  obtain ⟨v, rfl⟩ | ⟨r, rfl⟩ | rfl | rfl := hi
  · obtain ⟨hstore, hregs⟩ := loadImmediate_mem_stores h
    exact ⟨hstore, rfl, fun q => .inr (hregs q)⟩
  · obtain ⟨hstore, hregs⟩ := loadImmediate_mem_stores ((exec_ldMemReg r s).symm.trans h)
    exact ⟨hstore, by cases r <;> rfl, fun q => .inr (hregs q)⟩
  · obtain ⟨hstore, hregs⟩ := storeAStepHl_stores_frame h
    exact ⟨hstore, rfl, fun q => (hregs q).imp (⟨·, .inl rfl⟩) id⟩
  · obtain ⟨hstore, hregs⟩ := storeAStepHl_stores_frame h
    exact ⟨hstore, rfl, fun q => (hregs q).imp (⟨·, .inr rfl⟩) id⟩

/-- A storing CB form is a read-modify-write of (HL), which writes F and no other register. -/
theorem exec_storingModify {i : Instr} {s t : State} (hi : StoringModify i) (h : exec i s = .next t) :
    StoresAtHl s t ∧ firstByteWritesF i = true ∧ ∀ q, t.getReg q = s.getReg q := by
  have hmodify : firstByteWritesF i = true ∧ ∃ res flags, modifyOperand .mem res flags s = .next t := by
    obtain ⟨n, rfl | rfl⟩ | rfl | rfl | rfl | rfl := hi
    · exact ⟨by fin_cases n <;> rfl, _, _, (exec_resOn n _ s).symm.trans h⟩
    · exact ⟨by fin_cases n <;> rfl, _, _, (exec_setOn n _ s).symm.trans h⟩
    · exact ⟨rfl, _, _, h⟩
    · exact ⟨rfl, _, _, h⟩
    · exact ⟨rfl, _, _, h⟩
    · exact ⟨rfl, _, _, h⟩
  obtain ⟨hf, res, flags, hmodify⟩ := hmodify
  obtain ⟨hstore, hregs⟩ := modifyOperand_mem_stores hmodify
  exact ⟨hstore, hf, hregs⟩

/-- R63, R66, R72: of the bus, a store at HL changes what the bus answers at HL only. -/
theorem StoresAtHl.bus_frame {s t : State} (h : StoresAtHl s t) (hwf : s.bus.mem.wf) :
    (∀ x : Word, x ≠ s.hl → s.bus.isBootCtrl x = false →
      (s.bus.isExternal x = false ∨ s.bus.inBootImage x = true) →
      (t.bus.bootMapped = s.bus.bootMapped ∨ s.bus.inBootImage x = false) →
      t.bus.read x = s.bus.read x) ∧
    (s.bus.isExternal s.hl = false ∨ t.bus.mem = s.bus.mem) ∧
    (s.bus.isExternal s.hl = true ∨ t.bus.external = s.bus.external) := by
  obtain ⟨v, hbus⟩ := h.bus_eq
  rw [hbus]
  refine ⟨fun x hx hctrl hext hmapped => Bus.read_stored_of_ne hwf v hx hctrl hext hmapped, ?_⟩
  cases hext : s.bus.isExternal s.hl <;> simp [hext]

/-- Settles O59: the loads and the CB forms store at HL, and differ in the registers they write. -/
theorem storingFormsChangeOnlyTheByteAtHl : Obligations.StoringFormsChangeOnlyTheByteAtHl := by
  intro i s t hwf h hi
  have hforms : StoringLoad i ∨ StoringModify i := by
    simpa only [StoringLoad, StoringModify, or_assoc] using hi
  obtain hload | hmodify := hforms
  · obtain ⟨hstore, hf, hregs⟩ := exec_storingLoad hload h
    obtain ⟨hreads, hmem, hexternal⟩ := hstore.bus_frame hwf
    have hkeep : t.f = s.f := by simpa [hf] using exec_followsFlagRule i s t h
    exact ⟨hreads, hmem, hexternal, hregs, .inr hkeep, hstore.sp_eq, hstore.pc_eq, hstore.status_eq⟩
  · obtain ⟨hstore, hf, hregs⟩ := exec_storingModify hmodify h
    obtain ⟨hreads, hmem, hexternal⟩ := hstore.bus_frame hwf
    exact ⟨hreads, hmem, hexternal, fun q => .inr (hregs q), .inl hf, hstore.sp_eq, hstore.pc_eq,
      hstore.status_eq⟩

end Sys2Proof.Machine
end
